-- ==== Sys2Proof/Word.lean ====
section
/-! DEFINITION. The machine words of the block: `u8`, `u32` and binary32 bit patterns (R15, R76). -/
namespace Sys2Proof

/-- `u8`: a wire byte, a motor index, a selector or a small counter (R15). -/
abbrev Byte := BitVec 8

/-- `u32`: a command word, an argument word or a response's data (R101, R104). -/
abbrev Word := BitVec 32

/-- The bit pattern of an IEEE 754 binary32 number: bit 31 sign, bits 30:23 exponent, bits 22:0
fraction (R76, R210). -/
abbrev F32 := BitVec 32

end Sys2Proof
end

