-- ==== Sys2Proof/Syntax.lean ====
section
/-! DEFINITION. The fifteen commands of the block, one constructor per row of the opcode table (R106). -/
namespace Sys2Proof

/-- The two input ports of the block (R100). -/
inductive Port where
  /-- The host command port: every command but `KISS.RX`, issued by the HOST. -/
  | host
  /-- The receive port: only `KISS.RX`, issued by KRX. -/
  | receive
  deriving DecidableEq, Repr, Inhabited

/-- One command of the block with its operands (R103, R106). `idx` is the motor index `cmd[23:16]`,
`data` the wire byte `cmd[7:0]`, `sel` the field selector `cmd[7:0]`. An operand value that a row
admits and a rule refuses (R109) is still a command: its meaning is the Illegal outcome. -/
inductive Instr where
  /-- `KISS.ARM m` (R142). -/
  | kissArm (idx : Byte)
  /-- `KISS.RX b` (R143). -/
  | kissRx (data : Byte)
  /-- `KISS.DECODE` (R144). -/
  | kissDecode
  /-- `KISS.AGE m` (R146). -/
  | kissAge (idx : Byte)
  /-- `KISS.READ m, f` (R147). -/
  | kissRead (idx sel : Byte)
  /-- `KISS.TAKEDIRTY` (R148). -/
  | kissTakeDirty
  /-- `KISS.STAT` (R149). -/
  | kissStat
  /-- `HW4.BYTE b` (R183). -/
  | hw4Byte (data : Byte)
  /-- `HW4.READ f` (R184). -/
  | hw4Read (sel : Byte)
  /-- `HW4.STAT` (R185). -/
  | hw4Stat
  /-- `CMN.CRCERR` (R240). -/
  | cmnCrcErr
  /-- `CMN.ERR` (R241). -/
  | cmnErr
  /-- `FILT.INIT m, cutoffHz, looptimeUs` (R212). -/
  | filtInit (idx : Byte) (cutoffHz looptimeUs : Word)
  /-- `FILT.APPLY m, x` (R213). -/
  | filtApply (idx : Byte) (x : F32)
  /-- `FILT.READ m, f` (R214). -/
  | filtRead (idx sel : Byte)
  deriving DecidableEq, Repr

/-- The mnemonic of the command's row (R106). -/
def Instr.mnemonic : Instr → String
  | .kissArm _ => "KISS.ARM"
  | .kissRx _ => "KISS.RX"
  | .kissDecode => "KISS.DECODE"
  | .kissAge _ => "KISS.AGE"
  | .kissRead _ _ => "KISS.READ"
  | .kissTakeDirty => "KISS.TAKEDIRTY"
  | .kissStat => "KISS.STAT"
  | .hw4Byte _ => "HW4.BYTE"
  | .hw4Read _ => "HW4.READ"
  | .hw4Stat => "HW4.STAT"
  | .cmnCrcErr => "CMN.CRCERR"
  | .cmnErr => "CMN.ERR"
  | .filtInit _ _ _ => "FILT.INIT"
  | .filtApply _ _ => "FILT.APPLY"
  | .filtRead _ _ => "FILT.READ"

/-- The port the command's row names (R100, R106). -/
def Instr.port : Instr → Port
  | .kissRx _ => .receive
  | .kissArm _ | .kissDecode | .kissAge _ | .kissRead _ _ | .kissTakeDirty | .kissStat
  | .hw4Byte _ | .hw4Read _ | .hw4Stat | .cmnCrcErr | .cmnErr
  | .filtInit _ _ _ | .filtApply _ _ | .filtRead _ _ => .host

/-- How many 32-bit words the command takes on its port: 3 for `FILT.INIT`, 2 for `FILT.APPLY`,
1 for every other command (R107). -/
def Instr.wordCount : Instr → Nat
  | .filtInit _ _ _ => 3
  | .filtApply _ _ => 2
  | .kissArm _ | .kissRx _ | .kissDecode | .kissAge _ | .kissRead _ _ | .kissTakeDirty | .kissStat
  | .hw4Byte _ | .hw4Read _ | .hw4Stat | .cmnCrcErr | .cmnErr | .filtRead _ _ => 1

end Sys2Proof
end

