-- ==== Sys2Proof/Decode.lean ====
section
/-! DEFINITION. Decoding of a port's words into a command (R100 to R108), and the encoder. -/
namespace Sys2Proof

/-- IDX, bits 23:16 of the command word (R101, R103). -/
def idxField (w : Word) : Byte := w.extractLsb' 16 8

/-- DATA8, bits 7:0 of the command word (R101, R103). -/
def data8Field (w : Word) : Byte := w.extractLsb' 0 8

/-- One row of the opcode table (R105, R106): a word `w` selects the row when `w &&& mask = pattern`;
`args` argument words follow it on the same port (R107). -/
structure Row where
  mnemonic : String
  pattern : Word
  mask : Word
  args : Nat
  /-- The command, from the command word, `arg0` and `arg1`. -/
  build : Word → Word → Word → Instr

/-- `(cmd & mask) == match` (R105). -/
def rowMatches (w : Word) (r : Row) : Bool := (w &&& r.mask) == r.pattern

/-- The KISS rows of the opcode table (R106). -/
def kissRows : List Row := [
  ⟨"KISS.ARM", 0x11000000, 0xFF00FFFF, 0, fun w _ _ => .kissArm (idxField w)⟩,
  ⟨"KISS.RX", 0x12000000, 0xFFFFFF00, 0, fun w _ _ => .kissRx (data8Field w)⟩,
  ⟨"KISS.DECODE", 0x13000000, 0xFFFFFFFF, 0, fun _ _ _ => .kissDecode⟩,
  ⟨"KISS.AGE", 0x14000000, 0xFF00FFFF, 0, fun w _ _ => .kissAge (idxField w)⟩,
  ⟨"KISS.READ", 0x15000000, 0xFF00FF00, 0, fun w _ _ => .kissRead (idxField w) (data8Field w)⟩,
  ⟨"KISS.TAKEDIRTY", 0x16000000, 0xFFFFFFFF, 0, fun _ _ _ => .kissTakeDirty⟩,
  ⟨"KISS.STAT", 0x17000000, 0xFFFFFFFF, 0, fun _ _ _ => .kissStat⟩]

/-- The HW4 rows (R106). -/
def hw4Rows : List Row := [
  ⟨"HW4.BYTE", 0x21000000, 0xFFFFFF00, 0, fun w _ _ => .hw4Byte (data8Field w)⟩,
  ⟨"HW4.READ", 0x22000000, 0xFFFFFF00, 0, fun w _ _ => .hw4Read (data8Field w)⟩,
  ⟨"HW4.STAT", 0x23000000, 0xFFFFFFFF, 0, fun _ _ _ => .hw4Stat⟩]

/-- The CMN rows (R106). -/
def cmnRows : List Row := [
  ⟨"CMN.CRCERR", 0x31000000, 0xFFFFFFFF, 0, fun _ _ _ => .cmnCrcErr⟩,
  ⟨"CMN.ERR", 0x32000000, 0xFFFFFFFF, 0, fun _ _ _ => .cmnErr⟩]

/-- The FILT rows (R106), with their argument words (R107). -/
def filtRows : List Row := [
  ⟨"FILT.INIT", 0x41000000, 0xFF00FFFF, 2, fun w a0 a1 => .filtInit (idxField w) a0 a1⟩,
  ⟨"FILT.APPLY", 0x42000000, 0xFF00FFFF, 1, fun w a0 _ => .filtApply (idxField w) a0⟩,
  ⟨"FILT.READ", 0x43000000, 0xFF00FF00, 0, fun w _ _ => .filtRead (idxField w) (data8Field w)⟩]

/-- The opcode table (R106): complete, no other opcode is legal. -/
def opcodeTable : List Row := kissRows ++ hw4Rows ++ cmnRows ++ filtRows

/-- Why the words at the head of a port are not a command. -/
inductive DecodeError where
  /-- There is no word on the port. -/
  | noWord
  /-- The command word matches no row: it is Illegal and consumes no argument word (R105, R107, R108). -/
  | noRow (cmd : Word)
  /-- The row's argument words have not all arrived (R107). -/
  | missingArgs (mnemonic : String)
  deriving DecidableEq, Repr

/-- Decode the command at the head of a port's words (R105, R107): the command and the words after it,
or the reason by name. Total on every list of words. -/
def decode : List Word → Except DecodeError (Instr × List Word)
  | [] => .error .noWord
  | w :: rest =>
    match opcodeTable.find? (rowMatches w) with
    | none => .error (.noRow w)
    | some r =>
      if rest.length < r.args then .error (.missingArgs r.mnemonic)
      else .ok (r.build w (rest.getD 0 0) (rest.getD 1 0), rest.drop r.args)

/-- A command word: the opcode in bits 31:24, IDX in 23:16, RSVD 0 in 15:8, DATA8 in 7:0 (R101). -/
def commandWord (opcode idx data8 : Byte) : Word := opcode ++ idx ++ (0#8) ++ data8

/-- The words of a command, in the order they are put on its port (R101, R106, R107). -/
def encode : Instr → List Word
  | .kissArm m => [commandWord 0x11 m 0]
  | .kissRx b => [commandWord 0x12 0 b]
  | .kissDecode => [commandWord 0x13 0 0]
  | .kissAge m => [commandWord 0x14 m 0]
  | .kissRead m f => [commandWord 0x15 m f]
  | .kissTakeDirty => [commandWord 0x16 0 0]
  | .kissStat => [commandWord 0x17 0 0]
  | .hw4Byte b => [commandWord 0x21 0 b]
  | .hw4Read f => [commandWord 0x22 0 f]
  | .hw4Stat => [commandWord 0x23 0 0]
  | .cmnCrcErr => [commandWord 0x31 0 0]
  | .cmnErr => [commandWord 0x32 0 0]
  | .filtInit m cutoffHz looptimeUs => [commandWord 0x41 m 0, cutoffHz, looptimeUs]
  | .filtApply m x => [commandWord 0x42 m 0, x]
  | .filtRead m f => [commandWord 0x43 m f]

/-- The three words of an instruction numbered as the opcode table numbers its bits: the command word
in bits 31:0, `arg0` in 63:32, `arg1` in 95:64; every bit from `nbits` up is 0. -/
def tableWords (nbits w : Nat) : List Word :=
  let v := w % 2 ^ nbits
  [BitVec.ofNat 32 v, BitVec.ofNat 32 (v / 2 ^ 32), BitVec.ofNat 32 (v / 2 ^ 64)]

/-- The instruction the decoder reads from a table-numbered instruction. -/
def decodeTableWord (nbits w : Nat) : Option Instr :=
  match decode (tableWords nbits w) with
  | .ok (i, _) => some i
  | .error _ => none

/-- The words a table-numbered instruction puts on its port: as many as its row takes, one where no
row matches (R107). -/
def portWords (nbits w : Nat) : List Word :=
  match decodeTableWord nbits w with
  | some i => (tableWords nbits w).take i.wordCount
  | none => (tableWords nbits w).take 1

/-- The port on which a table-numbered instruction is issued: its row's port, the host command port
where no row matches (R100). -/
def issuingPort (nbits w : Nat) : Port :=
  match decodeTableWord nbits w with
  | some i => i.port
  | none => .host

end Sys2Proof
end

