-- ==== Sys2Proof/Config.lean ====
section
/-! DEFINITION. What an implementation fixes before reset (R6 to R12): the parameters, which State
carries read-only, the coefficient function and the NaN draws, which no proof can evaluate. -/
namespace Sys2Proof

/-- `PROTO`, the telemetry protocol, fixed for the life of the block (R7). -/
inductive Proto where
  /-- No configured serial port: only CMN and FILT commands are legal (R252). -/
  | none
  | kiss
  | hw4
  deriving DecidableEq, Repr, Inhabited

/-- The open parameters of R6 to R9. `BQ_COEFF` (R11) is `Config.bqCoeff`. -/
structure Params where
  /-- `PROTO` (R7). -/
  proto : Proto
  /-- `MAX_MOTORS`, the number of motor slots (R6). -/
  maxMotors : Nat
  /-- `MOTOR_COUNT`, the number of motors the driver reports (R8). -/
  motorCount : Nat
  /-- `AGE_INVALID`, the ceiling of the data age (R9). -/
  ageInvalid : Byte
  deriving DecidableEq, Repr

/-- The admissible configurations: 1 ≤ `MAX_MOTORS` ≤ 255 (R6), 1 ≤ `MOTOR_COUNT` ≤ `MAX_MOTORS`
(R8), 1 ≤ `AGE_INVALID` ≤ 255 (R9). -/
abbrev Params.Valid (c : Params) : Prop :=
  (1 ≤ c.maxMotors ∧ c.maxMotors ≤ 255) ∧ (1 ≤ c.motorCount ∧ c.motorCount ≤ c.maxMotors) ∧
    1 ≤ c.ageInvalid.toNat

/-- The configuration of `State.reset` (DESIGN CHOICE, log 2): the spec leaves `PROTO`, `MAX_MOTORS`
and `MOTOR_COUNT` open; 255 is R9's default. Statements are about every configuration. -/
def Params.default : Params := { proto := .kiss, maxMotors := 4, motorCount := 4, ageInvalid := 255 }

/-- The five biquad coefficients (R46). -/
structure Coeffs where
  b0 : F32
  b1 : F32
  b2 : F32
  a1 : F32
  a2 : F32
  deriving DecidableEq, Repr, Inhabited

/-- `BQ_COEFF(cutoffHz, looptimeUs)`: the coefficient function, of which the block assumes only that
it is total (R11, R211). Opaque: no proof can see its values (log 8). -/
opaque Config.bqCoeff : Word → Word → Coeffs

/-- The draws of R210: the sign (bit 22) and the payload (bits 21:0) of the `n`-th NaN result that the
block may produce. Opaque: any quiet NaN is possible (log 9). -/
opaque Config.nanDraw : Nat → BitVec 23

end Sys2Proof
end

