-- ==== Sys2Proof/Machine/State.lean ====
section
/-! DEFINITION. The state of the block (R30 to R53), the model's two ports, and the reset state. -/
namespace Sys2Proof.Machine

/-- Why a step could stop with a fault: never. The block has no trap and no behaviour of it is a
fault (R250, R251, R256), so no constructor exists and nothing raises one. -/
inductive Fault where
  deriving DecidableEq, Repr

/-- Why a step is refused. -/
inductive Refusal where
  /-- An instruction without a meaning yet: no arm of `exec` raises it. Safe. -/
  | notModelled (mnemonic : String)
  /-- `step` raises it when the configuration in the state is outside R6 to R9 (for example zero
  motors, which R8 excludes and 93_implementation_defined.md section 1 refuses). Safe: such a machine
  does not exist. No command raises it. -/
  | badConfiguration
  deriving DecidableEq, Repr

/-- `ack` of a response (R104). -/
inductive Ack where
  | ok
  | illegal
  deriving DecidableEq, Repr

/-- The response `(ack, data)` of a command (R104). -/
structure Response where
  ack : Ack
  data : Word
  deriving DecidableEq, Repr

/-- One per-motor telemetry record `rec[m]` (R36). -/
structure KissRecord where
  /-- `dataAgeTicks` (R37). -/
  age : BitVec 8
  /-- Degrees C, `i16`. -/
  temperature : BitVec 16
  /-- Centivolts, `i32`. -/
  voltageCenti : BitVec 32
  /-- Centiamps, `i32`. -/
  currentCenti : BitVec 32
  /-- mAh, `i32`. -/
  consumptionMah : BitVec 32
  /-- Raw electrical RPM in protocol-native units, `i32`. -/
  rpmErpmUnits : BitVec 32
  deriving DecidableEq, Repr

/-- `hw4Raw`, the raw fields of the last valid HW4 frame (R42). -/
structure Hw4Raw where
  counter : BitVec 24
  throttle : BitVec 16
  pwm : BitVec 16
  rpm : BitVec 24
  voltage : BitVec 16
  current : BitVec 16
  tempFet : BitVec 16
  tempBec : BitVec 16
  deriving DecidableEq, Repr

/-- One biquad filter `filt[m]` (R45 to R48). -/
structure Biquad where
  /-- 1 once `FILT.INIT` has succeeded (R46). -/
  ready : Bool
  b0 : F32
  b1 : F32
  b2 : F32
  a1 : F32
  a2 : F32
  /-- The two delay elements of the transposed direct form II (R47). -/
  s1 : F32
  s2 : F32
  /-- `in`, the last input (R48). -/
  inp : F32
  /-- The last output (R48). -/
  out : F32
  deriving DecidableEq, Repr

/-- The state of the machine: the configuration (never written), every item of R30, and the model's
own fields for the two ports (log 3, 5) and for the NaN draws (log 9). -/
structure State where
  /-- The configuration (R6 to R9): read-only, so that a statement about every state is about every
  configuration (log 1). -/
  cfg : Params
  /-- The KISS frame buffer (R33). -/
  kissBuf : Vector Byte 10
  /-- Bytes captured since the last arm, 0..10 (R34). -/
  kissPos : BitVec 8
  /-- The motor whose record a decode writes (R35). -/
  kissMotor : BitVec 8
  /-- `rec[0..MAX_MOTORS-1]` (R36). -/
  recs : List KissRecord
  /-- The combined-aggregate dirty flag (R38). -/
  dirty : Bool
  /-- The HW4 frame buffer (R39). -/
  hw4Buf : Vector Byte 19
  /-- Bytes of the current frame in `hw4Buf`, 0..18 (R40). -/
  hw4Read : BitVec 8
  /-- Bytes still to discard, 0..11 (R41). -/
  hw4Skip : BitVec 8
  /-- The raw fields of the last valid frame (R42). -/
  hw4Raw : Hw4Raw
  /-- The checksum/validation error counter (R43). -/
  crcErrorCount : BitVec 32
  /-- The sticky illegal-command flag (R44). -/
  cmdError : Bool
  /-- `filt[0..MAX_MOTORS-1]` (R45). -/
  filt : List Biquad
  /-- Model's own: the port the command being executed arrived on. -/
  port : Port
  /-- Model's own: which port moves at each coming step; its order is free (R80, R81). -/
  turns : List Port
  /-- Model's own: the words on the host command port, not yet taken, oldest first. -/
  hostIn : List Word
  /-- Model's own: the words on the receive port, not yet taken, oldest first. -/
  rxIn : List Word
  /-- Model's own: the responses given to the HOST, oldest first. -/
  hostOut : List Response
  /-- Model's own: the responses given to KRX, oldest first. -/
  rxOut : List Response
  /-- Model's own: how many NaN draws have been used (R210). -/
  draws : Nat
  deriving DecidableEq, Repr

/-- The outcome of a command or a step. -/
abbrev Result := Host.Outcome State Fault Refusal

/-- A record at reset: the age at its ceiling, every other field 0 (R53). -/
def KissRecord.reset (c : Params) : KissRecord :=
  { age := c.ageInvalid, temperature := 0, voltageCenti := 0, currentCenti := 0,
    consumptionMah := 0, rpmErpmUnits := 0 }

/-- The raw fields at reset (R53). -/
def Hw4Raw.reset : Hw4Raw :=
  { counter := 0, throttle := 0, pwm := 0, rpm := 0, voltage := 0, current := 0,
    tempFet := 0, tempBec := 0 }

/-- A filter at reset: not ready, every field +0.0 (R53). -/
def Biquad.reset : Biquad :=
  { ready := false, b0 := 0, b1 := 0, b2 := 0, a1 := 0, a2 := 0, s1 := 0, s2 := 0, inp := 0, out := 0 }

/-- The state right after reset under a configuration: the reset table of R53, with both ports empty. -/
def State.resetWith (c : Params) : State :=
  { cfg := c
    kissBuf := Vector.replicate 10 0
    kissPos := 0
    kissMotor := 0
    recs := List.replicate c.maxMotors (KissRecord.reset c)
    dirty := true
    hw4Buf := Vector.replicate 19 0
    hw4Read := 0
    hw4Skip := 0
    hw4Raw := Hw4Raw.reset
    crcErrorCount := 0
    cmdError := false
    filt := List.replicate c.maxMotors Biquad.reset
    port := .host
    turns := []
    hostIn := []
    rxIn := []
    hostOut := []
    rxOut := []
    draws := 0 }

/-- The machine right after reset (R280), under the configuration of log 2. -/
def State.reset : State := State.resetWith Params.default

end Sys2Proof.Machine
end

