-- ==== Sys2Proof/Machine/Ops.lean ====
section
/-! DEFINITION. The shared operations: responses, the Illegal outcome (the block's whole exception
mechanism, R250, R251, R256), the port and protocol checks (R252), the two banks and the two ports. -/
namespace Sys2Proof.Machine

/-- Give a response to the agent that issued the command (R104). -/
def State.respond (s : State) (ack : Ack) (data : Word) : State :=
  match s.port with
  | .host => { s with hostOut := s.hostOut ++ [⟨ack, data⟩] }
  | .receive => { s with rxOut := s.rxOut ++ [⟨ack, data⟩] }

/-- `rsp <- (OK, v)`: a legal command ends with the response `(OK, v)` (R16, R104). -/
def answer (s : State) (v : Word) : Result := .next (s.respond .ok v)

/-- `raise Illegal()`: no state changes but `cmdError <- 1`, the response is `(ILLEGAL, 0)`, and the block
takes the next command normally (R251). This is all the block has of exception entry; there is no saved
state, no handler and no return (R250, R256). -/
def raiseIllegal (s : State) : Result := .next (State.respond { s with cmdError := true } .illegal 0)

/-- Run the body of a command that passed a check; Illegal otherwise (R252). -/
def guardedBy (ok : Bool) (s : State) (body : Result) : Result :=
  if ok then body else raiseIllegal s

/-- The checks of R252 before a command's own rule, in order: the port it arrived on, then the
protocol (`none`: never gated). -/
def gated (p : Port) (q : Option Proto) (s : State) (body : Result) : Result :=
  guardedBy (decide (s.port = p)) s
    (guardedBy (match q with | none => true | some q => decide (s.cfg.proto = q)) s body)

/-- A KISS-unit command of the host command port (R252). -/
def kissHost (s : State) (body : Result) : Result := gated .host (some .kiss) s body

/-- A KISS-unit command of the receive port (R252). -/
def kissReceive (s : State) (body : Result) : Result := gated .receive (some .kiss) s body

/-- An HW4-unit command, host command port (R252). -/
def hw4Host (s : State) (body : Result) : Result := gated .host (some .hw4) s body

/-- A CMN or FILT command: host command port, any protocol (R252). -/
def anyHost (s : State) (body : Result) : Result := gated .host none s body

/-- A motor index `m` is valid iff `m < MOTOR_COUNT` (R8). -/
def validMotor (c : Params) (m : Byte) : Bool := decide (m.toNat < c.motorCount)

/-- `rec[m]` (R36). Outside the bank, where no valid motor index points (R71, log 13), a reset record. -/
def State.record (s : State) (m : Byte) : KissRecord := s.recs.getD m.toNat (KissRecord.reset s.cfg)

/-- `rec[m] <- r` (R36). -/
def State.setRecord (s : State) (m : Byte) (r : KissRecord) : State :=
  { s with recs := s.recs.set m.toNat r }

/-- `filt[m]` (R45). Outside the bank, where no valid motor index points (R71, log 13), a reset filter. -/
def State.filter (s : State) (m : Byte) : Biquad := s.filt.getD m.toNat Biquad.reset

/-- `filt[m] <- f` (R45). -/
def State.setFilter (s : State) (m : Byte) (f : Biquad) : State :=
  { s with filt := s.filt.set m.toNat f }

/-- The words waiting on a port (R100). -/
def State.input (s : State) : Port → List Word
  | .host => s.hostIn
  | .receive => s.rxIn

/-- Replace the words waiting on a port. -/
def State.setInput (s : State) (p : Port) (ws : List Word) : State :=
  match p with
  | .host => { s with hostIn := ws }
  | .receive => { s with rxIn := ws }

/-- The responses given to the agent of a port (R104). -/
def State.output (s : State) : Port → List Response
  | .host => s.hostOut
  | .receive => s.rxOut

/-- What the block takes from its ports at a step. -/
inductive Fetched where
  /-- No whole command is there for the port whose turn it is: nothing is issued (log 4). -/
  | idle (s : State)
  /-- The command word matches no row; it alone is consumed (R107). -/
  | unmatched (s : State)
  /-- A command, its words consumed (R107), and the state it runs in. -/
  | command (i : Instr) (s : State)

/-- The state once the first turn is taken and the words left on its port are `rest`. -/
def State.taken (s : State) (p : Port) (turns : List Port) (rest : List Word) : State :=
  State.setInput { s with port := p, turns := turns } p rest

/-- Take the next command from the port whose turn it is (R80, R105, R107). -/
def fetch (s : State) : Fetched :=
  match s.turns with
  | [] => .idle s
  | p :: ts =>
    match decode (s.input p) with
    | .ok (i, rest) => .command i (s.taken p ts rest)
    | .error (.noRow _) => .unmatched (s.taken p ts ((s.input p).drop 1))
    | .error _ => .idle { s with turns := ts }

/-- An agent puts words on its port ahead of those waiting there, and has the next turn. -/
def State.issue (s : State) (p : Port) (ws : List Word) : State :=
  State.setInput { s with turns := p :: s.turns } p (ws ++ s.input p)

end Sys2Proof.Machine
end

