-- ==== Sys2Proof/Machine/Flags.lean ====
section
/-! DEFINITION. The status flags and the error counter (R38, R43, R44, R46, R50). There are no
condition codes (R50); `cmdError` is written by `raiseIllegal` alone (R44). -/
namespace Sys2Proof.Machine

/-- A bit as a 32-bit value, `zext_32` (R15). -/
def bitWord (b : Bool) : Word := (BitVec.ofBool b).setWidth 32

/-- `dirty <- 1` (R38). -/
def State.setDirty (s : State) : State := { s with dirty := true }

/-- `dirty <- 0` (R38, R148). -/
def State.clearDirty (s : State) : State := { s with dirty := false }

/-- `crcErrorCount <- (crcErrorCount + 1) mod 2^32` (R43). -/
def State.countError (s : State) : State := { s with crcErrorCount := s.crcErrorCount + 1 }

end Sys2Proof.Machine
end

