-- ==== Sys2Proof/Machine/Common.lean ====
section
/-! DEFINITION. The common unit: the error counter and the illegal-command flag (43_common.md). -/
namespace Sys2Proof.Machine

/-- `CMN.CRCERR` (R240): the counter is not cleared by reading. -/
def execCmnCrcErr (s : State) : Result := anyHost s <| answer s s.crcErrorCount

/-- `CMN.ERR` (R241): the flag is not cleared by reading. -/
def execCmnErr (s : State) : Result := anyHost s <| answer s (bitWord s.cmdError)

end Sys2Proof.Machine
end

