-- ==== Sys2Proof/Machine/Float32.lean ====
section
/-! DEFINITION. The binary32 arithmetic of the filter bank (R210): IEEE 754 addition, subtraction and
multiplication, each computed exactly and rounded once to nearest with ties to even, subnormals kept, no
fused operation; a NaN result is a draw. The IEEE definitions themselves are PRESUMED (log 10). -/
namespace Sys2Proof.Machine

/-- Bit 31, the sign. -/
def f32Sign (x : F32) : Bool := x.getLsbD 31

/-- Bits 30:23, the biased exponent. -/
def f32Exp (x : F32) : Nat := (x.extractLsb' 23 8).toNat

/-- Bits 22:0, the fraction. -/
def f32Frac (x : F32) : Nat := (x.extractLsb' 0 23).toNat

def f32IsNaN (x : F32) : Bool := f32Exp x == 255 && f32Frac x != 0
def f32IsInf (x : F32) : Bool := f32Exp x == 255 && f32Frac x == 0
def f32IsFinite (x : F32) : Bool := f32Exp x != 255
def f32IsZero (x : F32) : Bool := f32Exp x == 0 && f32Frac x == 0

/-- A quiet NaN: a NaN whose fraction has its top bit set. -/
def f32IsQuietNaN (x : F32) : Bool := f32IsNaN x && x.getLsbD 22

/-- The magnitude of a finite number in units of 2^-149, the least subnormal: every finite binary32 is a
whole number of them. -/
def f32Mag (x : F32) : Nat :=
  if f32Exp x = 0 then f32Frac x else (2 ^ 23 + f32Frac x) <<< (f32Exp x - 1)

/-- The value of a finite number in units of 2^-149. -/
def f32Units (x : F32) : Int := if f32Sign x then -(f32Mag x : Int) else f32Mag x

/-- The number with the sign bit `neg` and the bits below it `low`. -/
def f32Signed (neg : Bool) (low : Nat) : F32 := BitVec.ofBool neg ++ BitVec.ofNat 31 low

/-- The bits below the sign of an infinity: also the first magnitude beyond the finite ones. -/
def f32InfLow : Nat := 0x7F800000

def f32Inf (neg : Bool) : F32 := f32Signed neg f32InfLow
def f32Zero (neg : Bool) : F32 := f32Signed neg 0

/-- The quiet NaN with the drawn sign (bit 22 of the draw) and payload (bits 21:0) (R210). -/
def f32Drawn (d : BitVec 23) : F32 :=
  d.extractLsb' 22 1 ++ 0xFF#8 ++ 1#1 ++ d.extractLsb' 0 22

/-- `mag / 2^shift` to the nearest integer, a tie to the even one. -/
def roundShift (mag shift : Nat) : Nat :=
  let q := mag >>> shift
  let twice := 2 * (mag - q <<< shift)
  if 1 <<< shift < twice ∨ (1 <<< shift = twice ∧ q % 2 = 1) then q + 1 else q

/-- How many low bits of `mag`, counted in units of 2^-(149 + k), lie below the last place of its
binary32 rounding: 24 significant bits are kept, and no place below 2^-149. -/
def roundPlace (mag k : Nat) : Nat := max k (Nat.log2 mag - 23)

/-- The bits below the sign of the binary32 nearest to `mag` units of 2^-(149 + k), ties to even;
an infinity where the rounding leaves the finite range. A rounding that carries to 2^24 moves into
the exponent field by the addition. -/
def roundLow (mag k : Nat) : Nat :=
  let place := roundPlace mag k
  min ((place - k) * 2 ^ 23 + roundShift mag place) f32InfLow

/-- Round an exact value, in units of 2^-(149 + k), once to binary32; `zeroNeg` is the sign of an exact
zero. -/
def f32Round (exact : Int) (k : Nat) (zeroNeg : Bool) : F32 :=
  if exact = 0 then f32Zero zeroNeg else f32Signed (decide (exact < 0)) (roundLow exact.natAbs k)

/-- The number with its sign bit flipped. -/
def f32Neg (x : F32) : F32 := x ^^^ 0x80000000#32

/-- `fadd(x, y)` (R210); `d` is the draw of a NaN result. An exact zero sum is -0 only for two negative
operands. -/
def fadd (d : BitVec 23) (x y : F32) : F32 :=
  if f32IsNaN x || f32IsNaN y then f32Drawn d
  else if f32IsInf x then
    if f32IsInf y && f32Sign x != f32Sign y then f32Drawn d else x
  else if f32IsInf y then y
  else f32Round (f32Units x + f32Units y) 0 (f32Sign x && f32Sign y)

/-- `fsub(x, y)` (R210): the sum of `x` and `-y`. -/
def fsub (d : BitVec 23) (x y : F32) : F32 := fadd d x (f32Neg y)

/-- `fmul(x, y)` (R210); `d` is the draw of a NaN result. The sign is the exclusive or of the signs. -/
def fmul (d : BitVec 23) (x y : F32) : F32 :=
  let neg := f32Sign x != f32Sign y
  if f32IsNaN x || f32IsNaN y then f32Drawn d
  else if f32IsInf x then if f32IsZero y then f32Drawn d else f32Inf neg
  else if f32IsInf y then if f32IsZero x then f32Drawn d else f32Inf neg
  else f32Round (f32Units x * f32Units y) 149 neg

end Sys2Proof.Machine
end

