-- ==== Sys2Proof/Machine/Operands.lean ====
section
/-! DEFINITION. Big-endian field assembly (R14, R15), the field decodes of the two wire formats (R141,
R182), the field selectors (R110 to R112) and the STAT layouts (R114, R115). -/
namespace Sys2Proof.Machine

/-- `KISS_FRAME_LEN` (R10). -/
def kissFrameLen : Byte := 10
/-- `KISS_CRC_POLY` (R10). -/
def kissCrcPoly : Byte := 0x07
/-- `KISS_CRC_SEED` (R10). -/
def kissCrcSeed : Byte := 0x00
/-- `HW4_FRAME_LEN` (R10). -/
def hw4FrameLen : Byte := 19
/-- `HW4_SYNC` (R10). -/
def hw4SyncMarker : Byte := 0x9B
/-- `HW4_SIG_SKIP` (R10). -/
def hw4SigSkip : Byte := 11
/-- The sanity threshold of bytes 4, 6 and 8 (R10). -/
def hw4SmallLimit : Byte := 0x04
/-- The sanity threshold of bytes 11, 13, 15 and 17 (R10). -/
def hw4HighLimit : Byte := 0x0F

/-- `be16(x, y)`: `x` is the more significant byte (R15). -/
def be16 (x y : Byte) : BitVec 16 := (x.setWidth 16 <<< 8) ||| y.setWidth 16

/-- `be24(x, y, z)`: `x` is the most significant byte (R15). -/
def be24 (x y z : Byte) : BitVec 24 :=
  (x.setWidth 24 <<< 16) ||| (y.setWidth 24 <<< 8) ||| z.setWidth 24

/-- `zext_32(be16(x, y))` (R15). -/
def be16Word (x y : Byte) : Word := (be16 x y).setWidth 32

/-- `KissFields(buf)` with age 0: the record a complete KISS frame gives (R141, R144). Every field is
unsigned and big-endian (R74). -/
def kissFields (buf : Vector Byte 10) : KissRecord :=
  { age := 0
    temperature := buf[0].setWidth 16
    voltageCenti := be16Word buf[1] buf[2]
    currentCenti := be16Word buf[3] buf[4]
    consumptionMah := be16Word buf[5] buf[6]
    rpmErpmUnits := be16Word buf[7] buf[8] }

/-- `Hw4Fields(buf)`: the raw fields of a valid HW4 frame (R119, R182). -/
def hw4Fields (buf : Vector Byte 19) : Hw4Raw :=
  { counter := be24 buf[1] buf[2] buf[3]
    throttle := be16 buf[4] buf[5]
    pwm := be16 buf[6] buf[7]
    rpm := be24 buf[8] buf[9] buf[10]
    voltage := be16 buf[11] buf[12]
    current := be16 buf[13] buf[14]
    tempFet := be16 buf[15] buf[16]
    tempBec := be16 buf[17] buf[18] }

/-- The field of a record that a `KISS.READ` selector names, as its 32-bit pattern; none for a selector
above 5 (R110, R147). -/
def kissField (r : KissRecord) (f : Byte) : Option Word :=
  match f.toNat with
  | 0 => some (r.age.setWidth 32)
  | 1 => some (r.temperature.signExtend 32)
  | 2 => some r.voltageCenti
  | 3 => some r.currentCenti
  | 4 => some r.consumptionMah
  | 5 => some r.rpmErpmUnits
  | _ => none

/-- The raw field that an `HW4.READ` selector names; none for a selector above 7 (R111, R184). -/
def hw4Field (r : Hw4Raw) (f : Byte) : Option Word :=
  match f.toNat with
  | 0 => some (r.counter.setWidth 32)
  | 1 => some (r.throttle.setWidth 32)
  | 2 => some (r.pwm.setWidth 32)
  | 3 => some (r.rpm.setWidth 32)
  | 4 => some (r.voltage.setWidth 32)
  | 5 => some (r.current.setWidth 32)
  | 6 => some (r.tempFet.setWidth 32)
  | 7 => some (r.tempBec.setWidth 32)
  | _ => none

/-- The filter field that a `FILT.READ` selector names, as its bits; none for a selector above 8
(R112, R214). -/
def filtField (b : Biquad) (f : Byte) : Option Word :=
  match f.toNat with
  | 0 => some b.inp
  | 1 => some b.out
  | 2 => some b.s1
  | 3 => some b.s2
  | 4 => some b.b0
  | 5 => some b.b1
  | 6 => some b.b2
  | 7 => some b.a1
  | 8 => some b.a2
  | _ => none

/-- A STAT response: `data[15:8] = hi`, `data[7:0] = lo`, `data[31:16] = 0` (R114, R115). -/
def statWord (hi lo : Byte) : Word := (hi.setWidth 32 <<< 8) ||| lo.setWidth 32

end Sys2Proof.Machine
end

