-- ==== Sys2Proof/Machine/Filter.lean ====
section
/-! DEFINITION. The filter bank: one binary32 biquad low-pass per motor (42_filter.md, R210 to R214). -/
namespace Sys2Proof.Machine

/-- A filter just configured: the coefficients, the delay state and the last input and output at +0.0,
ready (R212). -/
def initFilter (c : Coeffs) : Biquad :=
  { ready := true, b0 := c.b0, b1 := c.b1, b2 := c.b2, a1 := c.a1, a2 := c.a2,
    s1 := 0, s2 := 0, inp := 0, out := 0 }

/-- `FILT.INIT m, cutoffHz, looptimeUs` (R212). The product is the exact integer one. -/
def execFiltInit (m : Byte) (cutoffHz looptimeUs : Word) (s : State) : Result :=
  anyHost s <| guardedBy (validMotor s.cfg m) s <|
    guardedBy (!(cutoffHz == 0 || looptimeUs == 0)) s <|
    guardedBy (!decide (2 * cutoffHz.toNat * looptimeUs.toNat ≥ 1000000)) s <|
    answer (s.setFilter m (initFilter (Config.bqCoeff cutoffHz looptimeUs))) 0

/-- The output `y` of one sample (R213); the NaN draws used are `n` and `n + 1`. -/
def biquadOut (n : Nat) (f : Biquad) (x : F32) : F32 :=
  fadd (Config.nanDraw (n + 1)) (fmul (Config.nanDraw n) f.b0 x) f.s1

/-- The next `s1`, from the sample and the output (R213); draws `n + 2` to `n + 5`. -/
def biquadS1 (n : Nat) (f : Biquad) (x y : F32) : F32 :=
  fadd (Config.nanDraw (n + 5))
    (fsub (Config.nanDraw (n + 4)) (fmul (Config.nanDraw (n + 2)) f.b1 x) (fmul (Config.nanDraw (n + 3)) f.a1 y))
    f.s2

/-- The next `s2`, from the sample and the output (R213); draws `n + 6` to `n + 8`. -/
def biquadS2 (n : Nat) (f : Biquad) (x y : F32) : F32 :=
  fsub (Config.nanDraw (n + 8)) (fmul (Config.nanDraw (n + 6)) f.b2 x) (fmul (Config.nanDraw (n + 7)) f.a2 y)

/-- The operations of one `FILT.APPLY`, each with a draw of its own (R210, R213). -/
def drawsPerApply : Nat := 9

/-- One sample through the transposed direct form II (R213), the draws starting at `n`. -/
def applyFilter (n : Nat) (f : Biquad) (x : F32) : Biquad :=
  let y := biquadOut n f x
  { f with s1 := biquadS1 n f x y, s2 := biquadS2 n f x y, inp := x, out := y }

/-- The NaN draws of one command are used up (R210, log 9). -/
def State.useDraws (s : State) : State := { s with draws := s.draws + drawsPerApply }

/-- `FILT.APPLY m, x` (R213). -/
def execFiltApply (m : Byte) (x : F32) (s : State) : Result :=
  anyHost s <| guardedBy (validMotor s.cfg m && (s.filter m).ready) s <|
    let f := applyFilter s.draws (s.filter m) x
    answer (s.setFilter m f).useDraws f.out

/-- `FILT.READ m, f` (R214): legal whether or not the filter is ready. -/
def execFiltRead (m f : Byte) (s : State) : Result :=
  anyHost s <| guardedBy (validMotor s.cfg m) s <|
    match filtField (s.filter m) f with
    | some v => answer s v
    | none => raiseIllegal s

end Sys2Proof.Machine
end

