-- ==== Sys2Proof/Machine/Hw4.lean ====
section
/-! DEFINITION. The HW4 unit: the stream synchroniser, the frame validator and the raw fields
(41_hw4.md, R180 to R187). -/
namespace Sys2Proof.Machine

/-- `Hw4Sync(b)`: the synchroniser's step on one byte, and whether a 19-byte frame is now complete in
`hw4Buf` (R180). The first rule that applies is taken: skipping, an empty buffer, a signature packet
(R120), appending. -/
def hw4Sync (b : Byte) (s : State) : State × Bool :=
  if s.hw4Skip > 0 then ({ s with hw4Skip := s.hw4Skip - 1 }, false)
  else if s.hw4Read = 0 then
    if b = hw4SyncMarker then ({ s with hw4Buf := s.hw4Buf.set 0 b, hw4Read := 1 }, false)
    else (s, false)
  else if s.hw4Read = 1 ∧ b = hw4SyncMarker then
    ({ s with hw4Read := 0, hw4Skip := hw4SigSkip }, false)
  else
    let buf := s.hw4Buf.setIfInBounds s.hw4Read.toNat b
    if s.hw4Read + 1 = hw4FrameLen then ({ s with hw4Buf := buf, hw4Read := 0 }, true)
    else ({ s with hw4Buf := buf, hw4Read := s.hw4Read + 1 }, false)

/-- `Hw4Valid(buf)`: the seven sanity bytes are below their thresholds, as unsigned bytes (R181; seven,
not six: conflict C1). -/
def hw4Valid (buf : Vector Byte 19) : Bool :=
  buf[4] < hw4SmallLimit && buf[6] < hw4SmallLimit && buf[8] < hw4SmallLimit &&
    buf[11] < hw4HighLimit && buf[13] < hw4HighLimit &&
    buf[15] < hw4HighLimit && buf[17] < hw4HighLimit

/-- `HW4.BYTE b` (R183): one synchroniser step; a completed frame is validated in the same step and
latched or counted as an error. The codes are those of R116. -/
def execHw4Byte (b : Byte) (s : State) : Result :=
  hw4Host s <|
    let t := (hw4Sync b s).1
    if (hw4Sync b s).2 then
      if hw4Valid t.hw4Buf then answer { t with hw4Raw := hw4Fields t.hw4Buf } 1
      else answer t.countError 2
    else answer t 0

/-- `HW4.READ f` (R184). -/
def execHw4Read (f : Byte) (s : State) : Result :=
  hw4Host s <|
    match hw4Field s.hw4Raw f with
    | some v => answer s v
    | none => raiseIllegal s

/-- `HW4.STAT` (R115, R185). -/
def execHw4Stat (s : State) : Result :=
  hw4Host s <| answer s (statWord s.hw4Skip s.hw4Read)

end Sys2Proof.Machine
end

