-- ==== Sys2Proof/Machine/Kiss.lean ====
section
/-! DEFINITION. The KISS unit: the receive buffer, the CRC-8 validator, the decoder and the record bank
(40_kiss.md, R140 to R150). -/
namespace Sys2Proof.Machine

/-- One round of the CRC-8 shift: `(v << 1) ^ 0x07` if bit 7 is set, else `v << 1` (R140). -/
def crcShift (v : Byte) : Byte :=
  if v.getLsbD 7 then (v <<< 1) ^^^ kissCrcPoly else v <<< 1

/-- Eight rounds (R140). -/
def crcShift8 (v : Byte) : Byte := crcShift^[8] v

/-- The running CRC `crc` after one more byte (R140). -/
def crcStep (crc b : Byte) : Byte := crcShift8 (b ^^^ crc)

/-- `CRC8(bytes)`: polynomial 0x07, seed 0, most significant bit first (R140). -/
def crc8 (bytes : List Byte) : Byte := bytes.foldl crcStep kissCrcSeed

/-- The check of `KISS.DECODE`: the CRC of bytes 0..8 is byte 9 (R144). -/
def kissFrameOk (buf : Vector Byte 10) : Bool := crc8 (buf.toList.take 9) == buf[9]

/-- `KISS.ARM m` (R142). -/
def execKissArm (m : Byte) (s : State) : Result :=
  kissHost s <| guardedBy (validMotor s.cfg m) s <|
    answer { s with kissPos := 0, kissMotor := m } 0

/-- `KISS.RX b` (R143): the bounds-checked write of one byte. -/
def execKissRx (b : Byte) (s : State) : Result :=
  kissReceive s <|
    if s.kissPos < kissFrameLen then
      answer { s with kissBuf := s.kissBuf.setIfInBounds s.kissPos.toNat b, kissPos := s.kissPos + 1 } 1
    else answer s 0

/-- `KISS.DECODE` (R144): completeness, then the CRC, then the record. The codes are those of R113. -/
def execKissDecode (s : State) : Result :=
  kissHost s <|
    if s.kissPos < kissFrameLen then answer s 0
    else if kissFrameOk s.kissBuf then
      answer (s.setRecord s.kissMotor (kissFields s.kissBuf)).setDirty 1
    else answer s.countError 2

/-- The data age after one bump, saturating at `AGE_INVALID` (R37, R146). -/
def bumpAge (ceiling age : Byte) : Byte := if age < ceiling then age + 1 else age

/-- `KISS.AGE m` (R146). -/
def execKissAge (m : Byte) (s : State) : Result :=
  kissHost s <| guardedBy (validMotor s.cfg m) s <|
    let age := bumpAge s.cfg.ageInvalid (s.record m).age
    answer (s.setRecord m { s.record m with age := age }).setDirty (age.setWidth 32)

/-- `KISS.READ m, f` (R147). -/
def execKissRead (m f : Byte) (s : State) : Result :=
  kissHost s <| guardedBy (validMotor s.cfg m) s <|
    match kissField (s.record m) f with
    | some v => answer s v
    | none => raiseIllegal s

/-- `KISS.TAKEDIRTY` (R148): read and clear, in one step (R85). -/
def execKissTakeDirty (s : State) : Result :=
  kissHost s <| answer s.clearDirty (bitWord s.dirty)

/-- `KISS.STAT` (R114, R149). -/
def execKissStat (s : State) : Result :=
  kissHost s <| answer s (statWord s.kissMotor s.kissPos)

end Sys2Proof.Machine
end

