-- ==== Sys2Proof/Machine/Dispatch.lean ====
section
/-! DEFINITION. The meaning of every command, one arm per constructor of Instr. -/
namespace Sys2Proof.Machine
open Host

def exec (i : Instr) (s : State) : Host.Outcome State Fault Refusal :=
  match i with
  | .kissArm m => Sys2Proof.Machine.execKissArm m s
  | .kissRx b => Sys2Proof.Machine.execKissRx b s
  | .kissDecode => Sys2Proof.Machine.execKissDecode s
  | .kissAge m => Sys2Proof.Machine.execKissAge m s
  | .kissRead m f => Sys2Proof.Machine.execKissRead m f s
  | .kissTakeDirty => Sys2Proof.Machine.execKissTakeDirty s
  | .kissStat => Sys2Proof.Machine.execKissStat s
  | .hw4Byte b => Sys2Proof.Machine.execHw4Byte b s
  | .hw4Read f => Sys2Proof.Machine.execHw4Read f s
  | .hw4Stat => Sys2Proof.Machine.execHw4Stat s
  | .cmnCrcErr => Sys2Proof.Machine.execCmnCrcErr s
  | .cmnErr => Sys2Proof.Machine.execCmnErr s
  | .filtInit m c t => Sys2Proof.Machine.execFiltInit m c t s
  | .filtApply m x => Sys2Proof.Machine.execFiltApply m x s
  | .filtRead m f => Sys2Proof.Machine.execFiltRead m f s

end Sys2Proof.Machine
end

