-- ==== Sys2Proof/Machine/Step.lean ====
section
/-! DEFINITION. One step of the block: the command of the port whose turn it is (R17, R80, R105). -/
namespace Sys2Proof.Machine

/-- One step. The port whose turn it is issues its next command, which runs whole (R17, R78). Where no
whole command is there, nothing happens but that the turn is used (log 4). A word that matches no row is
Illegal (R105). A configuration outside R6 to R9 is refused (log 4). -/
def step (s : State) : Host.Outcome State Fault Refusal :=
  if s.cfg.Valid then
    match fetch s with
    | .idle t => .next t
    | .unmatched t => raiseIllegal t
    | .command i t => exec i t
  else .refused .badConfiguration

/-- `s` with a table-numbered instruction put by its agent on its port, ahead of anything there, and
with that agent's turn next (log 7). -/
def State.withFetchWord (s : State) (nbits w : Nat) : State :=
  s.issue (issuingPort nbits w) (portWords nbits w)

end Sys2Proof.Machine
end

