-- ==== Sys2Proof/Machine/Assembly.lean ====
section
/-! DEFINITION. The assembler forms of R121, at the level of a line's tokens (log 12), and the
pseudo-instructions of R122. The machine does not use them. -/
namespace Sys2Proof.Machine

/-- One operand of an assembler line: a number, a decimal float, or a field name (R121). -/
inductive AsmOperand where
  | num (n : Nat)
  /-- The decimal float ± `digits` / 10^`places`. -/
  | decimal (neg : Bool) (digits places : Nat)
  | name (field : String)
  deriving DecidableEq, Repr

/-- One assembler line (R121): `onRx` is the prefix `@rx`, then the mnemonic and its operands. -/
structure AsmLine where
  onRx : Bool
  mnemonic : String
  operands : List AsmOperand
  deriving DecidableEq, Repr

/-- The field names of `KISS.READ`, in the order of the selectors (R110, R121). -/
def kissFieldNames : List String := ["AGE", "TEMP", "VOLT", "CURR", "CONS", "RPM"]

/-- The field names of `HW4.READ` (R111, R121). -/
def hw4FieldNames : List String := ["COUNTER", "THROTTLE", "PWM", "RPM", "VOLT", "CURR", "TFET", "TBEC"]

/-- The field names of `FILT.READ` (R112, R121). -/
def filtFieldNames : List String := ["IN", "OUT", "S1", "S2", "B0", "B1", "B2", "A1", "A2"]

/-- An operand that is a number of `w` bits. -/
def asmNumber (w : Nat) : AsmOperand → Option (BitVec w)
  | .num n => if n < 2 ^ w then some (BitVec.ofNat w n) else none
  | .decimal _ _ _ => none
  | .name _ => none

/-- The binary32 nearest to ± `digits` / 10^`places`, ties to even (log 12). The last bit of the scaled
magnitude says whether the division by the power of ten left a rest. -/
def decimalBits (neg : Bool) (digits places : Nat) : F32 :=
  let scaled := digits <<< 213
  f32Signed neg (roundLow' (2 * (scaled / 10 ^ places) + (if scaled % 10 ^ places = 0 then 0 else 1)))
where
  /-- The rounding of a magnitude in units of 2^-214, a zero included. -/
  roundLow' (mag : Nat) : Nat := if mag = 0 then 0 else roundLow mag 65

/-- An operand that is a binary32 argument: its bits, or a decimal float (R121). -/
def asmFloat : AsmOperand → Option F32
  | .num n => asmNumber 32 (.num n)
  | .decimal neg digits places => some (decimalBits neg digits places)
  | .name _ => none

/-- An operand that is a selector: a number or one of the field names (R121). -/
def asmSelector (names : List String) : AsmOperand → Option Byte
  | .num n => asmNumber 8 (.num n)
  | .decimal _ _ _ => none
  | .name field => (names.findIdx? (· == field)).map (BitVec.ofNat 8)

/-- The command of an assembler line's mnemonic and operands (R121); none where the line has no such
form. -/
def assembleCommand (mnemonic : String) (operands : List AsmOperand) : Option Instr :=
  match mnemonic, operands with
  | "KISS.ARM", [m] => (asmNumber 8 m).map .kissArm
  | "KISS.RX", [b] => (asmNumber 8 b).map .kissRx
  | "KISS.DECODE", [] => some .kissDecode
  | "KISS.AGE", [m] => (asmNumber 8 m).map .kissAge
  | "KISS.READ", [m, f] => (asmNumber 8 m).bind fun m => (asmSelector kissFieldNames f).map (.kissRead m)
  | "KISS.TAKEDIRTY", [] => some .kissTakeDirty
  | "KISS.STAT", [] => some .kissStat
  | "HW4.BYTE", [b] => (asmNumber 8 b).map .hw4Byte
  | "HW4.READ", [f] => (asmSelector hw4FieldNames f).map .hw4Read
  | "HW4.STAT", [] => some .hw4Stat
  | "CMN.CRCERR", [] => some .cmnCrcErr
  | "CMN.ERR", [] => some .cmnErr
  | "FILT.INIT", [m, c, t] =>
    (asmNumber 8 m).bind fun m => (asmNumber 32 c).bind fun c => (asmNumber 32 t).map (.filtInit m c)
  | "FILT.APPLY", [m, x] => (asmNumber 8 m).bind fun m => (asmFloat x).map (.filtApply m)
  | "FILT.READ", [m, f] => (asmNumber 8 m).bind fun m => (asmSelector filtFieldNames f).map (.filtRead m)
  | _, _ => none

/-- The port and the command of an assembler line: `@rx` marks the receive port (R121). -/
def assemble (l : AsmLine) : Option (Port × Instr) :=
  (assembleCommand l.mnemonic l.operands).map fun i => (if l.onRx then .receive else .host, i)

/-- The operands of a command, written as numbers (R121). -/
def asmOperands : Instr → List AsmOperand
  | .kissArm m => [.num m.toNat]
  | .kissRx b => [.num b.toNat]
  | .kissDecode => []
  | .kissAge m => [.num m.toNat]
  | .kissRead m f => [.num m.toNat, .num f.toNat]
  | .kissTakeDirty => []
  | .kissStat => []
  | .hw4Byte b => [.num b.toNat]
  | .hw4Read f => [.num f.toNat]
  | .hw4Stat => []
  | .cmnCrcErr => []
  | .cmnErr => []
  | .filtInit m c t => [.num m.toNat, .num c.toNat, .num t.toNat]
  | .filtApply m x => [.num m.toNat, .num x.toNat]
  | .filtRead m f => [.num m.toNat, .num f.toNat]

/-- The assembler line of a command issued on a port (R121). -/
def disassemble (p : Port) (i : Instr) : AsmLine :=
  { onRx := decide (p = .receive), mnemonic := i.mnemonic, operands := asmOperands i }

/-- `KISS.FRAME b0, ..., b9`: ten receive-port commands (R122). -/
def kissFrame (bytes : Vector Byte 10) : List (Port × Instr) :=
  bytes.toList.map fun b => (.receive, .kissRx b)

/-- `HW4.FEED b0, ..., bn` (R122). -/
def hw4Feed (bytes : List Byte) : List (Port × Instr) := bytes.map fun b => (.host, .hw4Byte b)

/-- `KISS.READALL m`: selectors 0 to 5 (R122). -/
def kissReadAll (m : Byte) : List (Port × Instr) :=
  (List.range 6).map fun f => (.host, .kissRead m (BitVec.ofNat 8 f))

/-- `FILT.INITALL c, t`: motors 0 to `MOTOR_COUNT - 1` (R122). -/
def filtInitAll (cfg : Params) (cutoffHz looptimeUs : Word) : List (Port × Instr) :=
  (List.range cfg.motorCount).map fun m => (.host, .filtInit (BitVec.ofNat 8 m) cutoffHz looptimeUs)

end Sys2Proof.Machine
end

