-- ==== Sys2Proof/Machine/BiquadRef.lean ====
section
/-! DEFINITION. `BQ_COEFF_ref`, the spec's reference instance of the coefficient function (R211), as a
predicate over the reals. The machine does not use it: `FILT.INIT` takes `Config.bqCoeff` (log 8, 11). -/
namespace Sys2Proof.Machine

/-- `b` is `round32(r)`: the finite binary32 nearest to the real `r`, the even one of two (R211); a real
zero rounds to +0.0 or -0.0 alike (log 11). -/
def RealRoundsTo (r : ℝ) (b : F32) : Prop :=
  f32IsFinite b ∧ ∀ z : F32, f32IsFinite z →
    |(f32Units b : ℝ) - r * 2 ^ 149| ≤ |(f32Units z : ℝ) - r * 2 ^ 149| ∧
      (|(f32Units b : ℝ) - r * 2 ^ 149| = |(f32Units z : ℝ) - r * 2 ^ 149| →
        f32Units z ≠ f32Units b → b.getLsbD 0 = false)

/-- `c = BQ_COEFF_ref(fc, t)`: the second-order Butterworth low-pass by the bilinear transform, every
coefficient computed in real arithmetic and rounded once (R211). -/
def IsBqCoeffRef (fc t : Word) (c : Coeffs) : Prop :=
  ∃ w q al a0 : ℝ,
    w = 2 * Real.pi * fc.toNat * t.toNat * (1 / 1000000) ∧
    q = 1 / Real.sqrt 2 ∧
    al = Real.sin w / (2 * q) ∧
    a0 = 1 + al ∧
    RealRoundsTo (((1 - Real.cos w) / 2) / a0) c.b0 ∧
    RealRoundsTo ((1 - Real.cos w) / a0) c.b1 ∧
    c.b2 = c.b0 ∧
    RealRoundsTo ((-2 * Real.cos w) / a0) c.a1 ∧
    RealRoundsTo ((1 - al) / a0) c.a2

end Sys2Proof.Machine
end

