-- ==== Sys2Proof/WellFormed.lean ====
section
/-! DEFINITION. The operand range checks of R109 and the port and protocol of each command (R252). -/
namespace Sys2Proof

/-- The argument ranges of `FILT.INIT`: both nonzero and the cutoff below Nyquist, on the exact integer
product (R212). -/
def filtArgsOk (cutoffHz looptimeUs : Word) : Bool :=
  decide (cutoffHz ≠ 0) && decide (looptimeUs ≠ 0) &&
    decide (2 * cutoffHz.toNat * looptimeUs.toNat < 1000000)

/-- The operand values that R109 does not refuse under a configuration: the motor index, the selector
(R110 to R112) and the `FILT.INIT` arguments (R212) in range. -/
def Instr.wellFormed (c : Params) : Instr → Bool
  | .kissArm m => decide (m.toNat < c.motorCount)
  | .kissRx _ => true
  | .kissDecode => true
  | .kissAge m => decide (m.toNat < c.motorCount)
  | .kissRead m f => decide (m.toNat < c.motorCount) && decide (f.toNat ≤ 5)
  | .kissTakeDirty => true
  | .kissStat => true
  | .hw4Byte _ => true
  | .hw4Read f => decide (f.toNat ≤ 7)
  | .hw4Stat => true
  | .cmnCrcErr => true
  | .cmnErr => true
  | .filtInit m cutoffHz looptimeUs => decide (m.toNat < c.motorCount) && filtArgsOk cutoffHz looptimeUs
  | .filtApply m _ => decide (m.toNat < c.motorCount)
  | .filtRead m f => decide (m.toNat < c.motorCount) && decide (f.toNat ≤ 8)

/-- The protocol a command needs (R252, 3): KISS-unit commands need `PROTO = KISS`, HW4-unit commands
`PROTO = HW4`, the CMN and FILT commands none. -/
def Instr.neededProto : Instr → Option Proto
  | .kissArm _ | .kissRx _ | .kissDecode | .kissAge _ | .kissRead _ _ | .kissTakeDirty | .kissStat => some .kiss
  | .hw4Byte _ | .hw4Read _ | .hw4Stat => some .hw4
  | .cmnCrcErr | .cmnErr | .filtInit _ _ _ | .filtApply _ _ | .filtRead _ _ => .none

end Sys2Proof
end

