-- ==== Sys2Proof/Safety.lean ====
section
/-! DEFINITION. What statements speak of: the invariants of R52, runs of the machine, the frame
predicates and the rounding that R210 asks for. -/
namespace Sys2Proof.Machine

/-- The two banks have `MAX_MOTORS` slots (R36, R45). -/
abbrev State.Sized (s : State) : Prop :=
  s.recs.length = s.cfg.maxMotors ∧ s.filt.length = s.cfg.maxMotors

/-- R52, 1: the receive position and the armed motor are in range. -/
abbrev State.KissInRange (s : State) : Prop :=
  s.kissPos.toNat ≤ 10 ∧ s.kissMotor.toNat < s.cfg.motorCount

/-- R52, 2 to 4: the synchroniser's counters and the sync byte of a frame being filled. -/
abbrev State.Hw4InRange (s : State) : Prop :=
  (s.hw4Read.toNat ≤ 18 ∧ s.hw4Skip.toNat ≤ 11) ∧ (0 < s.hw4Read → s.hw4Buf[0] = 0x9B) ∧
    (0 < s.hw4Skip → s.hw4Read = 0)

/-- R52, 5: no data age is above its ceiling. -/
abbrev State.AgesBounded (s : State) : Prop := ∀ r ∈ s.recs, r.age.toNat ≤ s.cfg.ageInvalid.toNat

/-- R52, 6: every f32 field of a filter that is not ready is +0.0. -/
abbrev State.UnreadyFiltersClear (s : State) : Prop := ∀ f ∈ s.filt, f.ready = false → f = Biquad.reset

/-- The invariants of R52, with an admissible configuration (R6 to R9) and banks of `MAX_MOTORS` slots. -/
abbrev State.Inv (s : State) : Prop :=
  s.cfg.Valid ∧ s.Sized ∧ s.KissInRange ∧ s.Hw4InRange ∧ s.AgesBounded ∧ s.UnreadyFiltersClear

/-- `t` is reached from `s` by steps of the machine. -/
inductive Reaches : State → State → Prop where
  | refl (s : State) : Reaches s s
  | step (s t u : State) : Reaches s t → Machine.step t = .next u → Reaches s u

/-- Give `exec` a list of commands, one after the other, each on its port: one interleaving of the two
agents (R17, R80). -/
def runCommands : List (Port × Instr) → State → Result
  | [], s => .next s
  | (p, i) :: rest, s =>
    match exec i { s with port := p } with
    | .next t => runCommands rest t
    | .fault r => .fault r
    | .refused r => .refused r

/-- `t` keeps everything of `s` that no command writes: the configuration, the words waiting on the ports
and the turns (R30, R107). -/
abbrev State.SamePorts (s t : State) : Prop :=
  t.cfg = s.cfg ∧ t.port = s.port ∧ t.turns = s.turns ∧ t.hostIn = s.hostIn ∧ t.rxIn = s.rxIn

/-- `t` has the KISS unit of `s` (R33 to R38). -/
abbrev State.SameKiss (s t : State) : Prop :=
  t.kissBuf = s.kissBuf ∧ t.kissPos = s.kissPos ∧ t.kissMotor = s.kissMotor ∧ t.recs = s.recs ∧ t.dirty = s.dirty

/-- `t` has the HW4 unit of `s` (R39 to R42). -/
abbrev State.SameHw4 (s t : State) : Prop :=
  t.hw4Buf = s.hw4Buf ∧ t.hw4Read = s.hw4Read ∧ t.hw4Skip = s.hw4Skip ∧ t.hw4Raw = s.hw4Raw

/-- `t` has the filter bank and the NaN draws of `s` (R45 to R48, R210). -/
abbrev State.SameFilters (s t : State) : Prop := t.filt = s.filt ∧ t.draws = s.draws

/-- `t` has every item of R30 as in `s`, the configuration and the words waiting on the ports; only the
responses may differ. -/
abbrev State.SameBlock (s t : State) : Prop :=
  s.SamePorts t ∧ s.SameKiss t ∧ s.SameHw4 t ∧ s.SameFilters t ∧
    t.crcErrorCount = s.crcErrorCount ∧ t.cmdError = s.cmdError

/-- The port that is not `p`. -/
def otherPort : Port → Port
  | .host => .receive
  | .receive => .host

/-- From `s` to `t` exactly one response was given, `(ack, data)`, and to the agent of port `p` (R104). -/
abbrev State.Responds (s t : State) (p : Port) (ack : Ack) (data : Word) : Prop :=
  t.output p = s.output p ++ [⟨ack, data⟩] ∧ t.output (otherPort p) = s.output (otherPort p)

/-- The command is legal, answers `(OK, v)` and takes the block from `s` to `u`, apart from the response. -/
abbrev Completes (i : Instr) (s u : State) (v : Word) : Prop :=
  ∃ t, exec i s = .next t ∧ u.SameBlock t ∧ s.Responds t s.port .ok v

/-- The outcome of an Illegal command (R251): nothing changes but `cmdError <- 1`, and the response to the
issuing agent is `(ILLEGAL, 0)`. -/
abbrev IllegalOutcome (r : Result) (s : State) : Prop :=
  ∃ t, r = .next t ∧ State.SameBlock { s with cmdError := true } t ∧ s.Responds t s.port .illegal 0

/-- `b` is the finite binary32 nearest to `exact` units of 2^-(149 + k), and where two are equally near,
the one whose last fraction bit is 0 (R210). -/
def NearestEven (exact : Int) (k : Nat) (b : F32) : Prop :=
  f32IsFinite b ∧ ∀ z : F32, f32IsFinite z →
    |f32Units b * 2 ^ k - exact| ≤ |f32Units z * 2 ^ k - exact| ∧
      (|f32Units b * 2 ^ k - exact| = |f32Units z * 2 ^ k - exact| → f32Units z ≠ f32Units b → b.getLsbD 0 = false)

/-- The least magnitude, in units of 2^-149 scaled by 2^k, that round-to-nearest carries out of the finite
range: the largest finite number plus half its last place. -/
def overflowAt (k : Nat) : Nat := (2 ^ 25 - 1) * 2 ^ (252 + k)

/-- `r` is the IEEE 754 rounding of a nonzero exact value to binary32 (R210): the nearest finite number,
or the infinity of its sign beyond the finite range; a zero result keeps the sign of the exact value. -/
def RoundedTo (exact : Int) (k : Nat) (r : F32) : Prop :=
  f32Sign r = decide (exact < 0) ∧
    if exact.natAbs < overflowAt k then NearestEven exact k r else f32IsInf r

end Sys2Proof.Machine
end

