-- ==== Sys2Proof/Certificates/Slice0/Obligations.lean ====
section
/-! DEFINITION. The statements for the provers: what the numbered rules of spec/ say of the model. -/
open Sys2Proof Sys2Proof.Machine

/-! ## Encoding and decoding -/

/-- R101, R105, R106: decoding an encoded command gives it back, every operand at every value, and
leaves the words after it. -/
def Obligations.CommandWordsRoundTrip : Prop :=
  ∀ (i : Instr) (rest : List Word), decode (encode i ++ rest) = .ok (i, rest)

/-- R102, R108: a command is decoded from its own encoding only, so no bit of a word is ignored. -/
def Obligations.DecodedCommandIsItsEncoding : Prop :=
  ∀ (ws rest : List Word) (i : Instr), decode ws = .ok (i, rest) → ws = encode i ++ rest

/-- R105: at most one row of the opcode table matches a command word. -/
def Obligations.OpcodeRowsDoNotOverlap : Prop :=
  ∀ w : Word, ∀ r ∈ opcodeTable, ∀ q ∈ opcodeTable,
    rowMatches w r → rowMatches w q → r.mnemonic = q.mnemonic

/-- R108: a command word matches no row exactly when its opcode is not one of the fifteen, or RSVD is
nonzero, or IDX or DATA8 is nonzero where the row fixes it to 0; such a word is Illegal at the step that
takes it, on either port, and is consumed alone (R107). -/
def Obligations.ReservedEncodingsAreIllegal : Prop :=
  (∀ (w : Word) (rest : List Word),
    decode (w :: rest) = .error (.noRow w) ↔
      (w.extractLsb' 24 8).toNat ∉
          [0x11, 0x12, 0x13, 0x14, 0x15, 0x16, 0x17, 0x21, 0x22, 0x23, 0x31, 0x32, 0x41, 0x42, 0x43] ∨
        w.extractLsb' 8 8 ≠ 0 ∨
        ((w.extractLsb' 24 8).toNat ∉ [0x11, 0x14, 0x15, 0x41, 0x42, 0x43] ∧ w.extractLsb' 16 8 ≠ 0) ∨
        ((w.extractLsb' 24 8).toNat ∉ [0x12, 0x15, 0x21, 0x22, 0x43] ∧ w.extractLsb' 0 8 ≠ 0)) ∧
  ∀ (s : State) (p : Port) (turns : List Port) (w : Word) (rest : List Word),
    s.cfg.Valid → s.turns = p :: turns → s.input p = w :: rest → decode (w :: rest) = .error (.noRow w) →
      IllegalOutcome (step s) (s.taken p turns rest)

/-- R107: the words a command takes follow from its opcode alone (3 for 0x41, 2 for 0x42, 1 otherwise),
they are consecutive words of its port, and the step that takes a command consumes exactly those, whatever
comes of the command; a word of no row is consumed alone, and the word after it is the next command word. -/
def Obligations.OpcodeTellsTheCommandLength : Prop :=
  (∀ (w : Word) (ws rest : List Word) (i : Instr), decode (w :: ws) = .ok (i, rest) →
    rest = (w :: ws).drop
      (if (w.extractLsb' 24 8).toNat = 0x41 then 3 else if (w.extractLsb' 24 8).toNat = 0x42 then 2 else 1)) ∧
  (∀ (s t : State) (p : Port) (turns : List Port) (i : Instr) (rest : List Word),
    s.turns = p :: turns → decode (s.input p) = .ok (i, rest) → step s = .next t →
      t.input p = rest ∧ t.input (otherPort p) = s.input (otherPort p)) ∧
  ∀ (s t : State) (p : Port) (turns : List Port) (w : Word) (rest : List Word),
    s.turns = p :: turns → s.input p = w :: rest → decode (w :: rest) = .error (.noRow w) → step s = .next t →
      t.input p = rest ∧ t.input (otherPort p) = s.input (otherPort p)

/-- Words written out from R101 and R106 decode to the commands they stand for. -/
def Obligations.SampleWordsDecode : Prop :=
  decode [0x11020000] = .ok (.kissArm 2, []) ∧
  decode [0x1200000A] = .ok (.kissRx 0x0A, []) ∧
  decode [0x13000000] = .ok (.kissDecode, []) ∧
  decode [0x15030002] = .ok (.kissRead 3 2, []) ∧
  decode [0x210000D0] = .ok (.hw4Byte 0xD0, []) ∧
  decode [0x31000000] = .ok (.cmnCrcErr, []) ∧
  decode [0x41000000, 0x00000064, 0x000003E8] = .ok (.filtInit 0 100 1000, []) ∧
  decode [0x42010000, 0x447A0000] = .ok (.filtApply 1 0x447A0000, []) ∧
  decode [0x18000000] = .error (.noRow 0x18000000)

/-- R121, on a line's tokens and with every operand written as a number: the assembler form of a command
assembles to it. Starting from tokens, and reading a number operand without a point as the bits of a binary32
argument (R121 allows a decimal float too), are the model's choices (log 12, DESIGN CHOICE). -/
def Obligations.AssemblyRoundTrip : Prop :=
  ∀ (p : Port) (i : Instr), assemble (disassemble p i) = some (p, i)

/-! ## Steps, Illegal commands and whole-machine rules -/

/-- R17, R80: where the words of the port whose turn it is decode to a command, the step is the command's
meaning, run once the turn and its words are taken. -/
def Obligations.StepRunsTheDecodedCommand : Prop :=
  ∀ (s : State) (p : Port) (turns : List Port) (i : Instr) (rest : List Word),
    s.cfg.Valid → s.turns = p :: turns → decode (s.input p) = .ok (i, rest) →
      step s = exec i (s.taken p turns rest)

/-- The model's choice of log 4: with no turn left nothing changes, and a turn of a port without a whole
command is used up and nothing else changes. -/
def Obligations.IdleStepOnlyUsesTheTurn : Prop :=
  (∀ s : State, s.cfg.Valid → s.turns = [] → step s = .next s) ∧
  ∀ (s : State) (p : Port) (turns : List Port) (e : DecodeError),
    s.cfg.Valid → s.turns = p :: turns → decode (s.input p) = .error e → (∀ w, e ≠ .noRow w) →
      step s = .next { s with turns := turns }

/-- R250, R85: no step stops the block: under every admissible configuration a step answers a next state.
That a step without a whole command answers one too (DESIGN CHOICE), and that an inadmissible configuration is
refused by the name `badConfiguration` (DEDUCED), are the model's choices of log 4. -/
def Obligations.StepNeverStops : Prop :=
  ∀ s : State, (s.cfg.Valid → ∃ t, step s = .next t) ∧ (¬ s.cfg.Valid → step s = .refused .badConfiguration)

/-- R251: an Illegal command changes no state but `cmdError <- 1`, answers `(ILLEGAL, 0)` to its agent,
consumes its words, and does not stop the block: the next step is taken. Every command that does not answer
`OK` is of this kind. -/
def Obligations.IllegalCommandChangesOnlyTheFlag : Prop :=
  ∀ (s t : State) (p : Port) (turns : List Port) (i : Instr) (rest : List Word),
    s.cfg.Valid → s.turns = p :: turns → decode (s.input p) = .ok (i, rest) → step s = .next t →
    (¬ ∃ v, s.Responds t p .ok v) →
      State.SameBlock { s.taken p turns rest with cmdError := true } t ∧ s.Responds t p .illegal 0 ∧
        ∃ u, step t = .next u

/-- R252: a word of no row is Illegal, a command that its port, the protocol gating or an operand check
refuses is Illegal, and every other command is answered `(OK, v)` without touching `cmdError`. -/
def Obligations.IllegalExactlyWhenACheckFails : Prop :=
  (∀ (s : State) (p : Port) (turns : List Port) (w : Word) (rest : List Word),
    s.cfg.Valid → s.turns = p :: turns → s.input p = w :: rest → decode (w :: rest) = .error (.noRow w) →
      IllegalOutcome (step s) (s.taken p turns rest)) ∧
  ∀ (i : Instr) (s : State),
    ((s.port = i.port ∧ (∀ q, i.neededProto = some q → s.cfg.proto = q) ∧ i.wellFormed s.cfg = true ∧
        ∀ m x, i = .filtApply m x → (s.filter m).ready = true) →
      ∃ t v, exec i s = .next t ∧ s.Responds t s.port .ok v ∧ t.cmdError = s.cmdError) ∧
    (¬ (s.port = i.port ∧ (∀ q, i.neededProto = some q → s.cfg.proto = q) ∧ i.wellFormed s.cfg = true ∧
        ∀ m x, i = .filtApply m x → (s.filter m).ready = true) →
      IllegalOutcome (exec i s) s)

/-- R44: `cmdError` is set by an Illegal command, kept by every other, and never cleared along a run. -/
def Obligations.CommandErrorIsSticky : Prop :=
  (∀ (i : Instr) (s t : State), exec i s = .next t →
    (s.Responds t s.port .illegal 0 → t.cmdError = true) ∧
      (¬ s.Responds t s.port .illegal 0 → t.cmdError = s.cmdError)) ∧
  ∀ s t : State, Reaches s t → s.cmdError = true → t.cmdError = true

/-- R43: the error counter goes up by one, modulo 2^32, with a `KISS.DECODE` or `HW4.BYTE` that answers 2,
and no other command writes it. -/
def Obligations.ErrorCounterCountsFailures : Prop :=
  ∀ (i : Instr) (s t : State), exec i s = .next t →
    ((i.mnemonic ∈ ["KISS.DECODE", "HW4.BYTE"] ∧ s.Responds t s.port .ok 2) →
      t.crcErrorCount.toNat = (s.crcErrorCount.toNat + 1) % 2 ^ 32) ∧
    (¬ (i.mnemonic ∈ ["KISS.DECODE", "HW4.BYTE"] ∧ s.Responds t s.port .ok 2) →
      t.crcErrorCount = s.crcErrorCount)

/-- R38: the dirty flag is set by a complete decode and by `KISS.AGE`, cleared by `KISS.TAKEDIRTY`, and
kept by every other command. -/
def Obligations.DirtyFlagFollowsItsWriters : Prop :=
  ∀ (i : Instr) (s t : State), exec i s = .next t →
    ((i = .kissDecode ∧ s.Responds t s.port .ok 1) ∨ (i.mnemonic = "KISS.AGE" ∧ ∃ v, s.Responds t s.port .ok v) →
      t.dirty = true) ∧
    ((i = .kissTakeDirty ∧ ∃ v, s.Responds t s.port .ok v) → t.dirty = false) ∧
    (¬ ((i = .kissDecode ∧ s.Responds t s.port .ok 1) ∨
          (i.mnemonic = "KISS.AGE" ∧ ∃ v, s.Responds t s.port .ok v) ∨
          (i = .kissTakeDirty ∧ ∃ v, s.Responds t s.port .ok v)) →
      t.dirty = s.dirty)

/-- R49, its column "written by": each item of state is kept by every command that the rule does not list
as its writer; `cmdError`, whose writers are the Illegal commands, is kept by every command answered `OK`. -/
def Obligations.OnlyListedCommandsWrite : Prop :=
  ∀ (i : Instr) (s t : State), exec i s = .next t →
    s.SamePorts t ∧
    (i.mnemonic ≠ "KISS.RX" → t.kissBuf = s.kissBuf) ∧
    (i.mnemonic ∉ ["KISS.ARM", "KISS.RX"] → t.kissPos = s.kissPos) ∧
    (i.mnemonic ≠ "KISS.ARM" → t.kissMotor = s.kissMotor) ∧
    (i.mnemonic ∉ ["KISS.DECODE", "KISS.AGE"] → t.recs = s.recs) ∧
    (i.mnemonic ≠ "KISS.DECODE" →
      t.recs.map (fun r => (r.temperature, r.voltageCenti, r.currentCenti, r.consumptionMah, r.rpmErpmUnits)) =
        s.recs.map (fun r => (r.temperature, r.voltageCenti, r.currentCenti, r.consumptionMah, r.rpmErpmUnits))) ∧
    (i.mnemonic ∉ ["KISS.DECODE", "KISS.AGE", "KISS.TAKEDIRTY"] → t.dirty = s.dirty) ∧
    (i.mnemonic ≠ "HW4.BYTE" → s.SameHw4 t) ∧
    (i.mnemonic ∉ ["KISS.DECODE", "HW4.BYTE"] → t.crcErrorCount = s.crcErrorCount) ∧
    ((∃ v, s.Responds t s.port .ok v) → t.cmdError = s.cmdError) ∧
    (i.mnemonic ∉ ["FILT.INIT", "FILT.APPLY"] → t.filt = s.filt)

/-- R79, first sentence: the seven read commands, when legal, change no state and are idempotent: given
again they answer the same value. -/
def Obligations.ReadsChangeNothing : Prop :=
  ∀ (i : Instr) (s t : State) (v : Word),
    i.mnemonic ∈ ["KISS.READ", "KISS.STAT", "HW4.READ", "HW4.STAT", "FILT.READ", "CMN.CRCERR", "CMN.ERR"] →
    exec i s = .next t → s.Responds t s.port .ok v →
      s.SameBlock t ∧ ∃ u, exec i t = .next u ∧ t.Responds u t.port .ok v

/-- R82: a command of the HOST keeps `kissBuf` and keeps or resets `kissPos`; a command of KRX keeps `kissPos`
or increments it, and keeps the rest of the KISS unit, the HW4 unit, the filter bank and the error counter. -/
def Obligations.OnlyKrxCapturesAndOnlyHostResets : Prop :=
  ∀ (i : Instr) (s t : State), exec i s = .next t →
    (s.port = .host → t.kissBuf = s.kissBuf ∧ (t.kissPos = s.kissPos ∨ t.kissPos = 0)) ∧
    (s.port = .receive →
      (t.kissPos = s.kissPos ∨ t.kissPos = s.kissPos + 1) ∧ t.kissMotor = s.kissMotor ∧ t.recs = s.recs ∧
        t.dirty = s.dirty ∧ s.SameHw4 t ∧ s.SameFilters t ∧ t.crcErrorCount = s.crcErrorCount)

/-- R83: once `kissPos = 10`, no command of either agent but `KISS.ARM` changes `kissBuf` or `kissPos`,
in any interleaving, so every decode until the next arm reads the same ten bytes. -/
def Obligations.CompleteFrameIsStable : Prop :=
  ∀ (cmds : List (Port × Instr)) (s t : State),
    s.kissPos = 10 → (∀ c ∈ cmds, c.2.mnemonic ≠ "KISS.ARM") → runCommands cmds s = .next t →
      t.kissBuf = s.kissBuf ∧ t.kissPos = 10

/-- R252, 3, and D19: along every run the state of a unit whose protocol is not active never changes. -/
def Obligations.InactiveProtocolStateIsFrozen : Prop :=
  ∀ s t : State, Reaches s t →
    (s.cfg.proto ≠ .kiss → s.SameKiss t) ∧ (s.cfg.proto ≠ .hw4 → s.SameHw4 t)

/-- R30: no command writes the configuration, along every run. -/
def Obligations.ConfigurationNeverChanges : Prop :=
  ∀ s t : State, Reaches s t → t.cfg = s.cfg

/-- R52: every step keeps the invariants, in every state that meets them; so every state reached from
reset, under every admissible configuration and whatever the two agents put on the ports, meets them. -/
def Obligations.StepKeepsInvariants : Prop :=
  (∀ s t : State, s.Inv → step s = .next t → t.Inv) ∧
  ∀ (c : Params) (turns : List Port) (hostWords rxWords : List Word) (t : State), c.Valid →
    Reaches { State.resetWith c with turns := turns, hostIn := hostWords, rxIn := rxWords } t → t.Inv

/-- R52, R53: the reset state of every admissible configuration meets the invariants. -/
def Obligations.ResetMeetsInvariants : Prop :=
  ∀ c : Params, c.Valid → (State.resetWith c).Inv

/-- R53: the reset value of every item of state, under every configuration. -/
def Obligations.ResetValues : Prop :=
  ∀ c : Params,
    (∀ j (h : j < 10), (State.resetWith c).kissBuf[j] = 0x00) ∧
    (State.resetWith c).kissPos = 0 ∧ (State.resetWith c).kissMotor = 0 ∧
    (∀ m, m < c.maxMotors → (State.resetWith c).recs[m]? = some ⟨c.ageInvalid, 0, 0, 0, 0, 0⟩) ∧
    (State.resetWith c).dirty = true ∧
    (∀ j (h : j < 19), (State.resetWith c).hw4Buf[j] = 0x00) ∧
    (State.resetWith c).hw4Read = 0 ∧ (State.resetWith c).hw4Skip = 0 ∧
    (State.resetWith c).hw4Raw = ⟨0, 0, 0, 0, 0, 0, 0, 0⟩ ∧
    (State.resetWith c).crcErrorCount = 0 ∧ (State.resetWith c).cmdError = false ∧
    (∀ m, m < c.maxMotors → (State.resetWith c).filt[m]? = some ⟨false, 0, 0, 0, 0, 0, 0, 0, 0, 0⟩)

/-! ## KISS unit -/

/-- R142: `KISS.ARM m`. -/
def Obligations.KissArmStartsAFrame : Prop :=
  (∀ (w : Word) (m : Byte) (rest : List Word), decode (w :: rest) = .ok (.kissArm m, rest) ↔
      w &&& 0xFF00FFFF = 0x11000000 ∧ w.extractLsb' 16 8 = m) ∧
  ∀ (m : Byte) (s : State),
    (s.port = .host ∧ s.cfg.proto = .kiss ∧ m.toNat < s.cfg.motorCount →
      Completes (.kissArm m) s { s with kissPos := 0, kissMotor := m } 0) ∧
    (¬ (s.port = .host ∧ s.cfg.proto = .kiss ∧ m.toNat < s.cfg.motorCount) →
      IllegalOutcome (exec (.kissArm m) s) s)

/-- R143: `KISS.RX b`: the byte is written at `kissPos` while `kissPos < 10`, else dropped. -/
def Obligations.KissRxCapturesOrDrops : Prop :=
  (∀ (w : Word) (b : Byte) (rest : List Word), decode (w :: rest) = .ok (.kissRx b, rest) ↔
      w &&& 0xFFFFFF00 = 0x12000000 ∧ w.extractLsb' 0 8 = b) ∧
  ∀ (b : Byte) (s : State),
    (s.port = .receive ∧ s.cfg.proto = .kiss ∧ s.kissPos.toNat < 10 →
      ∃ buf : Vector Byte 10,
        Completes (.kissRx b) s { s with kissBuf := buf, kissPos := s.kissPos + 1 } 1 ∧
          ∀ j (h : j < 10), buf[j] = if j = s.kissPos.toNat then b else s.kissBuf[j]) ∧
    (s.port = .receive ∧ s.cfg.proto = .kiss ∧ 10 ≤ s.kissPos.toNat → Completes (.kissRx b) s s 0) ∧
    (¬ (s.port = .receive ∧ s.cfg.proto = .kiss) → IllegalOutcome (exec (.kissRx b) s) s)

/-- R144, with the fields of R117 and R141: `KISS.DECODE`. -/
def Obligations.KissDecodeHasThreeResults : Prop :=
  (∀ (w : Word) (rest : List Word), decode (w :: rest) = .ok (.kissDecode, rest) ↔ w = 0x13000000) ∧
  ∀ s : State,
    (s.port = .host ∧ s.cfg.proto = .kiss ∧ s.kissPos.toNat < 10 → Completes .kissDecode s s 0) ∧
    (s.port = .host ∧ s.cfg.proto = .kiss ∧ 10 ≤ s.kissPos.toNat ∧
        crc8 (s.kissBuf.toList.take 9) = s.kissBuf[9] →
      Completes .kissDecode s
        { s with
          recs := s.recs.set s.kissMotor.toNat
            { age := 0
              temperature := BitVec.ofNat 16 s.kissBuf[0].toNat
              voltageCenti := BitVec.ofNat 32 (256 * s.kissBuf[1].toNat + s.kissBuf[2].toNat)
              currentCenti := BitVec.ofNat 32 (256 * s.kissBuf[3].toNat + s.kissBuf[4].toNat)
              consumptionMah := BitVec.ofNat 32 (256 * s.kissBuf[5].toNat + s.kissBuf[6].toNat)
              rpmErpmUnits := BitVec.ofNat 32 (256 * s.kissBuf[7].toNat + s.kissBuf[8].toNat) }
          dirty := true } 1) ∧
    (s.port = .host ∧ s.cfg.proto = .kiss ∧ 10 ≤ s.kissPos.toNat ∧
        crc8 (s.kissBuf.toList.take 9) ≠ s.kissBuf[9] →
      Completes .kissDecode s
        { s with crcErrorCount := BitVec.ofNat 32 (s.crcErrorCount.toNat + 1) } 2) ∧
    (¬ (s.port = .host ∧ s.cfg.proto = .kiss) → IllegalOutcome (exec .kissDecode s) s)

/-- R146: `KISS.AGE m`. -/
def Obligations.KissAgeBumpsAndSaturates : Prop :=
  (∀ (w : Word) (m : Byte) (rest : List Word), decode (w :: rest) = .ok (.kissAge m, rest) ↔
      w &&& 0xFF00FFFF = 0x14000000 ∧ w.extractLsb' 16 8 = m) ∧
  ∀ (m : Byte) (s : State),
    (∀ r, s.recs[m.toNat]? = some r →
      s.port = .host ∧ s.cfg.proto = .kiss ∧ m.toNat < s.cfg.motorCount →
      (r.age.toNat < s.cfg.ageInvalid.toNat →
        Completes (.kissAge m) s
          { s with recs := s.recs.set m.toNat { r with age := r.age + 1 }, dirty := true }
          (BitVec.ofNat 32 (r.age.toNat + 1))) ∧
      (s.cfg.ageInvalid.toNat ≤ r.age.toNat →
        Completes (.kissAge m) s { s with dirty := true } (BitVec.ofNat 32 r.age.toNat))) ∧
    (¬ (s.port = .host ∧ s.cfg.proto = .kiss ∧ m.toNat < s.cfg.motorCount) →
      IllegalOutcome (exec (.kissAge m) s) s)

/-- R147, with the selectors of R110: `KISS.READ m, f`. -/
def Obligations.KissReadAnswersTheField : Prop :=
  (∀ (w : Word) (m f : Byte) (rest : List Word), decode (w :: rest) = .ok (.kissRead m f, rest) ↔
      w &&& 0xFF00FF00 = 0x15000000 ∧ w.extractLsb' 16 8 = m ∧ w.extractLsb' 0 8 = f) ∧
  ∀ (m f : Byte) (s : State),
    (∀ r v, s.recs[m.toNat]? = some r →
      s.port = .host ∧ s.cfg.proto = .kiss ∧ m.toNat < s.cfg.motorCount →
      [BitVec.ofNat 32 r.age.toNat, BitVec.ofInt 32 r.temperature.toInt, r.voltageCenti, r.currentCenti,
        r.consumptionMah, r.rpmErpmUnits][f.toNat]? = some v →
      Completes (.kissRead m f) s s v) ∧
    (¬ (s.port = .host ∧ s.cfg.proto = .kiss ∧ m.toNat < s.cfg.motorCount ∧ f.toNat ≤ 5) →
      IllegalOutcome (exec (.kissRead m f) s) s)

/-- R148: `KISS.TAKEDIRTY`. -/
def Obligations.KissTakeDirtyReadsAndClears : Prop :=
  (∀ (w : Word) (rest : List Word), decode (w :: rest) = .ok (.kissTakeDirty, rest) ↔ w = 0x16000000) ∧
  ∀ s : State,
    (s.port = .host ∧ s.cfg.proto = .kiss →
      Completes .kissTakeDirty s { s with dirty := false } (if s.dirty then 1 else 0)) ∧
    (¬ (s.port = .host ∧ s.cfg.proto = .kiss) → IllegalOutcome (exec .kissTakeDirty s) s)

/-- R149, with the layout of R114: `KISS.STAT`. -/
def Obligations.KissStatShowsPositionAndMotor : Prop :=
  (∀ (w : Word) (rest : List Word), decode (w :: rest) = .ok (.kissStat, rest) ↔ w = 0x17000000) ∧
  ∀ s : State,
    (s.port = .host ∧ s.cfg.proto = .kiss →
      ∃ v : Word, Completes .kissStat s s v ∧
        v.extractLsb' 0 8 = s.kissPos ∧ v.extractLsb' 8 8 = s.kissMotor ∧ v.extractLsb' 16 16 = 0) ∧
    (¬ (s.port = .host ∧ s.cfg.proto = .kiss) → IllegalOutcome (exec .kissStat s) s)

/-- R140, its corner cases and the table of 95_test_vectors.md 2.1. -/
def Obligations.CrcVectors : Prop :=
  crc8 [] = 0x00 ∧ crc8 (List.replicate 9 0x00) = 0x00 ∧ crc8 [0x01] = 0x07 ∧ crc8 [0x80] = 0x89 ∧
    crc8 [0xFF] = 0xF3 ∧ crc8 (List.replicate 9 0xFF) = 0xD8 ∧
    crc8 [0x31, 0x32, 0x33, 0x34, 0x35, 0x36, 0x37, 0x38, 0x39] = 0xF4 ∧
    crc8 [0x0A, 0x00, 0xDC, 0x00, 0x05, 0x00, 0x0A, 0x01, 0xF4] = 0x0D ∧
    crc8 [0x0A, 0x00, 0xDC, 0x01, 0x05, 0x00, 0x0A, 0x01, 0xF4] = 0x24 ∧
    crc8 [0xFF, 0x00, 0x00, 0x00, 0x00, 0x00, 0x00, 0x00, 0x00] = 0x0F ∧
    crc8 [0x19, 0x06, 0x0E, 0x01, 0x2C, 0x00, 0x7B, 0x03, 0xE8] = 0x88 ∧
    crc8 [0x7F, 0xFF, 0xFF, 0x80, 0x00, 0xFF, 0xFF, 0xFF, 0xFF] = 0x96

/-- R140, R145: `CRC8` is the CRC with polynomial x^8 + x^2 + x + 1 (0x07), seed 0, most significant bit
first, no final exclusive or: the remainder of the message times x^8, over GF(2). -/
def Obligations.CrcIsThePolynomialRemainder : Prop :=
  ∀ bytes : List Byte,
    let bytePoly : Byte → Polynomial (ZMod 2) := fun b =>
      ∑ i ∈ Finset.range 8, if b.getLsbD i then Polynomial.X ^ i else 0
    let message : Polynomial (ZMod 2) :=
      bytes.foldl (fun p b => p * Polynomial.X ^ 8 + bytePoly b) 0
    Polynomial.modByMonic (message * Polynomial.X ^ 8)
        (Polynomial.X ^ 8 + Polynomial.X ^ 2 + Polynomial.X + 1) = bytePoly (crc8 bytes)

/-- R145: `CRC8` with seed 0 and no final exclusive or is linear over GF(2). -/
def Obligations.CrcIsLinear : Prop :=
  ∀ a b : List Byte, a.length = b.length →
    crc8 (List.zipWith (· ^^^ ·) a b) = crc8 a ^^^ crc8 b

/-- R145: a buffer that differs in exactly one bit from one that decodes `FRAME_COMPLETE` decodes
`FRAME_FAILED`, with only the error counter changed. -/
def Obligations.SingleBitErrorsAreDetected : Prop :=
  ∀ (s u : State) (k : Fin 10) (j : Fin 8),
    s.kissPos = 10 → exec .kissDecode s = .next u → s.Responds u s.port .ok 1 →
      Completes .kissDecode
        { s with kissBuf := s.kissBuf.set k (s.kissBuf[k] ^^^ (1#8 <<< j.val)) }
        { s with kissBuf := s.kissBuf.set k (s.kissBuf[k] ^^^ (1#8 <<< j.val)),
                 crcErrorCount := s.crcErrorCount + 1 } 2

/-- R79, R287: a second decode of the same buffer repeats the first: a pending or complete one changes
nothing more, a failed one counts the error again. -/
def Obligations.RepeatedDecodeRepeatsItsEffect : Prop :=
  ∀ s t : State, exec .kissDecode s = .next t →
    (s.Responds t s.port .ok 0 → Completes .kissDecode t t 0) ∧
    (s.Responds t s.port .ok 1 → Completes .kissDecode t t 1) ∧
    (s.Responds t s.port .ok 2 →
      Completes .kissDecode t { t with crcErrorCount := t.crcErrorCount + 1 } 2)

/-- W1: a payload followed by its own CRC self-validates: the CRC of the whole is 0. -/
def Obligations.CheckByteSelfValidates : Prop :=
  ∀ payload : List Byte, crc8 (payload ++ [crc8 payload]) = 0

/-- R117, R118, R142 to R144, and W1: arming, ten received bytes whose last is the CRC of the nine others,
and a decode put the payload's fields into the armed motor's record, from every state that meets the
invariants. -/
def Obligations.KissFrameRoundTrip : Prop :=
  ∀ (s : State) (m : Byte) (payload : Vector Byte 9),
    s.Inv → s.cfg.proto = .kiss → m.toNat < s.cfg.motorCount →
      ∃ t, runCommands
          ((.host, .kissArm m) :: kissFrame (payload.push (crc8 payload.toList)) ++ [(.host, .kissDecode)]) s =
            .next t ∧
        t.recs = s.recs.set m.toNat
          { age := 0
            temperature := payload[0].setWidth 16
            voltageCenti := BitVec.ofNat 32 (256 * payload[1].toNat + payload[2].toNat)
            currentCenti := BitVec.ofNat 32 (256 * payload[3].toNat + payload[4].toNat)
            consumptionMah := BitVec.ofNat 32 (256 * payload[5].toNat + payload[6].toNat)
            rpmErpmUnits := BitVec.ofNat 32 (256 * payload[7].toNat + payload[8].toNat) } ∧
        t.kissBuf = payload.push (crc8 payload.toList) ∧ t.kissPos = 10 ∧ t.kissMotor = m ∧ t.dirty = true ∧
        t.crcErrorCount = s.crcErrorCount ∧ t.cmdError = s.cmdError ∧
        t.hostOut = s.hostOut ++ [⟨.ok, 0⟩, ⟨.ok, 1⟩] ∧ t.rxOut = s.rxOut ++ List.replicate 10 ⟨.ok, 1⟩

/-- R150: ten 0x00 bytes decode `FRAME_COMPLETE` with every field 0 and age 0. -/
def Obligations.AllZeroFrameIsAccepted : Prop :=
  ∀ s : State, s.port = .host → s.cfg.proto = .kiss → s.kissPos = 10 → s.kissBuf = Vector.replicate 10 0 →
    Completes .kissDecode s
      { s with recs := s.recs.set s.kissMotor.toNat ⟨0, 0, 0, 0, 0, 0⟩, dirty := true } 1

/-- R37: the data age counts `KISS.AGE` commands and saturates at `AGE_INVALID`: after `n` of them, from a
state that meets the invariants, it is the lesser of `age + n` and the ceiling, and nothing else of the record
bank has changed. -/
def Obligations.DataAgeSaturates : Prop :=
  ∀ (s : State) (m : Byte) (n : Nat) (r : KissRecord),
    s.Inv → s.cfg.proto = .kiss → m.toNat < s.cfg.motorCount → s.recs[m.toNat]? = some r →
      ∃ t age, runCommands (List.replicate n (.host, .kissAge m)) s = .next t ∧
        t.recs = s.recs.set m.toNat { r with age := age } ∧
        age.toNat = min (r.age.toNat + n) s.cfg.ageInvalid.toNat

/-! ## HW4 unit -/

/-- R183, with the synchroniser of R180, the validator of R181 (the seven bytes of conflict C1) and the
fields of R182: `HW4.BYTE b`, in every state whose fill count is in its range (R40). -/
def Obligations.Hw4ByteFollowsTheSynchroniser : Prop :=
  (∀ (w : Word) (b : Byte) (rest : List Word), decode (w :: rest) = .ok (.hw4Byte b, rest) ↔
      w &&& 0xFFFFFF00 = 0x21000000 ∧ w.extractLsb' 0 8 = b) ∧
  ∀ (b : Byte) (s : State),
    (s.port = .host ∧ s.cfg.proto = .hw4 →
      (0 < s.hw4Skip.toNat → Completes (.hw4Byte b) s { s with hw4Skip := s.hw4Skip - 1 } 0) ∧
      (s.hw4Skip = 0 → s.hw4Read = 0 → b = 0x9B →
        Completes (.hw4Byte b) s { s with hw4Buf := s.hw4Buf.set 0 0x9B, hw4Read := 1 } 0) ∧
      (s.hw4Skip = 0 → s.hw4Read = 0 → b ≠ 0x9B → Completes (.hw4Byte b) s s 0) ∧
      (s.hw4Skip = 0 → s.hw4Read = 1 → b = 0x9B →
        Completes (.hw4Byte b) s { s with hw4Read := 0, hw4Skip := 11 } 0) ∧
      (∀ h : s.hw4Read.toNat < 18, s.hw4Skip = 0 → s.hw4Read ≠ 0 → ¬ (s.hw4Read = 1 ∧ b = 0x9B) →
        Completes (.hw4Byte b) s
          { s with hw4Buf := s.hw4Buf.set s.hw4Read.toNat b, hw4Read := s.hw4Read + 1 } 0) ∧
      (s.hw4Skip = 0 → s.hw4Read = 18 →
        let f : Vector Byte 19 := s.hw4Buf.set 18 b
        let valid : Prop :=
          (f[4].toNat < 4 ∧ f[6].toNat < 4 ∧ f[8].toNat < 4) ∧
            f[11].toNat < 0x0F ∧ f[13].toNat < 0x0F ∧ f[15].toNat < 0x0F ∧ f[17].toNat < 0x0F
        (valid → Completes (.hw4Byte b) s
          { s with
            hw4Buf := f
            hw4Read := 0
            hw4Raw :=
              { counter := BitVec.ofNat 24 (65536 * f[1].toNat + 256 * f[2].toNat + f[3].toNat)
                throttle := BitVec.ofNat 16 (256 * f[4].toNat + f[5].toNat)
                pwm := BitVec.ofNat 16 (256 * f[6].toNat + f[7].toNat)
                rpm := BitVec.ofNat 24 (65536 * f[8].toNat + 256 * f[9].toNat + f[10].toNat)
                voltage := BitVec.ofNat 16 (256 * f[11].toNat + f[12].toNat)
                current := BitVec.ofNat 16 (256 * f[13].toNat + f[14].toNat)
                tempFet := BitVec.ofNat 16 (256 * f[15].toNat + f[16].toNat)
                tempBec := BitVec.ofNat 16 (256 * f[17].toNat + f[18].toNat) } } 1) ∧
        (¬ valid → Completes (.hw4Byte b) s
          { s with
            hw4Buf := f
            hw4Read := 0
            crcErrorCount := BitVec.ofNat 32 (s.crcErrorCount.toNat + 1) } 2))) ∧
    (¬ (s.port = .host ∧ s.cfg.proto = .hw4) → IllegalOutcome (exec (.hw4Byte b) s) s)

/-- R184, with the selectors of R111: `HW4.READ f`. -/
def Obligations.Hw4ReadAnswersTheField : Prop :=
  (∀ (w : Word) (f : Byte) (rest : List Word), decode (w :: rest) = .ok (.hw4Read f, rest) ↔
      w &&& 0xFFFFFF00 = 0x22000000 ∧ w.extractLsb' 0 8 = f) ∧
  ∀ (f : Byte) (s : State),
    (∀ v, s.port = .host ∧ s.cfg.proto = .hw4 →
      [s.hw4Raw.counter.toNat, s.hw4Raw.throttle.toNat, s.hw4Raw.pwm.toNat, s.hw4Raw.rpm.toNat,
        s.hw4Raw.voltage.toNat, s.hw4Raw.current.toNat, s.hw4Raw.tempFet.toNat,
        s.hw4Raw.tempBec.toNat][f.toNat]? = some v →
      Completes (.hw4Read f) s s (BitVec.ofNat 32 v)) ∧
    (¬ (s.port = .host ∧ s.cfg.proto = .hw4 ∧ f.toNat ≤ 7) → IllegalOutcome (exec (.hw4Read f) s) s)

/-- R185, with the layout of R115: `HW4.STAT`. -/
def Obligations.Hw4StatShowsFillAndSkip : Prop :=
  (∀ (w : Word) (rest : List Word), decode (w :: rest) = .ok (.hw4Stat, rest) ↔ w = 0x23000000) ∧
  ∀ s : State,
    (s.port = .host ∧ s.cfg.proto = .hw4 →
      ∃ v : Word, Completes .hw4Stat s s v ∧
        v.extractLsb' 0 8 = s.hw4Read ∧ v.extractLsb' 8 8 = s.hw4Skip ∧ v.extractLsb' 16 16 = 0) ∧
    (¬ (s.port = .host ∧ s.cfg.proto = .hw4) → IllegalOutcome (exec .hw4Stat s) s)

/-- R182: the fields that a valid frame latches are bounded by the sanity thresholds. -/
def Obligations.LatchedFieldsAreBounded : Prop :=
  ∀ (b : Byte) (s t : State), exec (.hw4Byte b) s = .next t → s.Responds t s.port .ok 1 →
    t.hw4Raw.throttle.toNat < 1024 ∧ t.hw4Raw.pwm.toNat < 1024 ∧ t.hw4Raw.rpm.toNat < 262144 ∧
      t.hw4Raw.voltage.toNat < 3840 ∧ t.hw4Raw.current.toNat < 3840 ∧
      t.hw4Raw.tempFet.toNat < 3840 ∧ t.hw4Raw.tempBec.toNat < 3840

/-- R186 (a): the number of bytes that bring the synchroniser back to idle from each of its states. -/
def Obligations.SynchroniserReturnsToIdle : Prop :=
  ∀ (s : State) (bytes : List Byte), s.cfg.proto = .hw4 → s.Hw4InRange →
    (0 < s.hw4Skip.toNat ∧ bytes.length = s.hw4Skip.toNat) ∨
      (s.hw4Read = 1 ∧ bytes.length = 12 ∧ bytes.head? = some 0x9B) ∨
      (s.hw4Read = 1 ∧ bytes.length = 18 ∧ bytes.head? ≠ some 0x9B) ∨
      (2 ≤ s.hw4Read.toNat ∧ bytes.length = 19 - s.hw4Read.toNat) →
    bytes.length ≤ 18 ∧
      ∃ t, runCommands (hw4Feed bytes) s = .next t ∧ t.hw4Read = 0 ∧ t.hw4Skip = 0

/-- R186 (b): a gap-free stream of frames, each starting 0x9B and none with byte 1 = 0x9B, taken up idle
on the first byte of a frame, stays aligned and reports every frame; the error counter goes up by the
frames that fail validation. -/
def Obligations.AlignedStreamReportsEveryFrame : Prop :=
  ∀ (s : State) (frames : List (Vector Byte 19)), s.cfg.proto = .hw4 → s.hw4Read = 0 → s.hw4Skip = 0 →
    (∀ f ∈ frames, f[0] = 0x9B ∧ f[1] ≠ 0x9B) →
      ∃ t, runCommands (hw4Feed (frames.flatMap (·.toList))) s = .next t ∧ t.hw4Read = 0 ∧ t.hw4Skip = 0 ∧
        t.hostOut = s.hostOut ++ frames.flatMap (fun f =>
          List.replicate 18 (⟨.ok, 0⟩ : Response) ++ [⟨.ok, if hw4Valid f then 1 else 2⟩]) ∧
        t.crcErrorCount = s.crcErrorCount + BitVec.ofNat 32 (frames.countP (fun f => !hw4Valid f))

/-- R120, R186 and W5: the two bytes of a signature packet and the eleven after them are discarded, and
the nineteen bytes that follow, the second of them not 0x9B, are assembled into exactly one frame. -/
def Obligations.SignaturePacketIsSkipped : Prop :=
  ∀ (s : State) (skipped payload : List Byte), s.cfg.proto = .hw4 → s.hw4Read = 0 → s.hw4Skip = 0 →
    skipped.length = 11 → payload.length = 18 → payload.head? ≠ some 0x9B →
      ∃ t v, runCommands (hw4Feed ([0x9B, 0x9B] ++ skipped ++ [0x9B] ++ payload)) s = .next t ∧
        t.hw4Buf.toList = 0x9B :: payload ∧ t.hw4Read = 0 ∧ t.hw4Skip = 0 ∧ (v = 1 ∨ v = 2) ∧
        t.hostOut = s.hostOut ++ List.replicate 31 (⟨.ok, 0⟩ : Response) ++ [⟨.ok, v⟩]

/-- R187: a data frame whose byte 1 is 0x9B is taken as a signature packet: its first thirteen bytes
report no frame, latch nothing, count nothing, and leave the synchroniser hunting from byte 13 on. -/
def Obligations.FrameWithMarkerInByteOneIsLost : Prop :=
  ∀ (s : State) (f : Vector Byte 19), s.cfg.proto = .hw4 → s.hw4Read = 0 → s.hw4Skip = 0 →
    f[0] = 0x9B → f[1] = 0x9B →
      ∃ t, runCommands (hw4Feed (f.toList.take 13)) s = .next t ∧ t.hw4Read = 0 ∧ t.hw4Skip = 0 ∧
        t.hw4Raw = s.hw4Raw ∧ t.crcErrorCount = s.crcErrorCount ∧
        t.hostOut = s.hostOut ++ List.replicate 13 (⟨.ok, 0⟩ : Response)

/-! ## Common unit -/

/-- R240: `CMN.CRCERR`, under every protocol. -/
def Obligations.CmnCrcErrAnswersTheCounter : Prop :=
  (∀ (w : Word) (rest : List Word), decode (w :: rest) = .ok (.cmnCrcErr, rest) ↔ w = 0x31000000) ∧
  ∀ s : State,
    (s.port = .host → Completes .cmnCrcErr s s s.crcErrorCount) ∧
    (s.port ≠ .host → IllegalOutcome (exec .cmnCrcErr s) s)

/-- R241: `CMN.ERR`, under every protocol. -/
def Obligations.CmnErrAnswersTheFlag : Prop :=
  (∀ (w : Word) (rest : List Word), decode (w :: rest) = .ok (.cmnErr, rest) ↔ w = 0x32000000) ∧
  ∀ s : State,
    (s.port = .host → Completes .cmnErr s s (if s.cmdError then 1 else 0)) ∧
    (s.port ≠ .host → IllegalOutcome (exec .cmnErr s) s)

/-! ## Filter bank -/

/-- R212: `FILT.INIT m, cutoffHz, looptimeUs`. The coefficients are those of `BQ_COEFF`, whatever it is. -/
def Obligations.FiltInitConfiguresTheFilter : Prop :=
  (∀ (w a0 a1 c t : Word) (m : Byte) (rest : List Word),
    decode (w :: a0 :: a1 :: rest) = .ok (.filtInit m c t, rest) ↔
      w &&& 0xFF00FFFF = 0x41000000 ∧ w.extractLsb' 16 8 = m ∧ a0 = c ∧ a1 = t) ∧
  ∀ (m : Byte) (c t : Word) (s : State),
    (s.port = .host ∧ m.toNat < s.cfg.motorCount ∧ c ≠ 0 ∧ t ≠ 0 ∧ 2 * c.toNat * t.toNat < 1000000 →
      Completes (.filtInit m c t) s
        { s with
          filt := s.filt.set m.toNat
            { ready := true
              b0 := (Config.bqCoeff c t).b0, b1 := (Config.bqCoeff c t).b1, b2 := (Config.bqCoeff c t).b2
              a1 := (Config.bqCoeff c t).a1, a2 := (Config.bqCoeff c t).a2
              s1 := 0, s2 := 0, inp := 0, out := 0 } } 0) ∧
    (¬ (s.port = .host ∧ m.toNat < s.cfg.motorCount ∧ c ≠ 0 ∧ t ≠ 0 ∧ 2 * c.toNat * t.toNat < 1000000) →
      IllegalOutcome (exec (.filtInit m c t) s) s)

/-- R213: `FILT.APPLY m, x`: the transposed direct form II in the rule's order of operations, each NaN
result drawn on its own (`d`). -/
def Obligations.FiltApplyRunsTheBiquad : Prop :=
  (∀ (w a0 x : Word) (m : Byte) (rest : List Word),
    decode (w :: a0 :: rest) = .ok (.filtApply m x, rest) ↔
      w &&& 0xFF00FFFF = 0x42000000 ∧ w.extractLsb' 16 8 = m ∧ a0 = x) ∧
  ∀ (m : Byte) (x : F32) (s : State) (f : Biquad), s.filt[m.toNat]? = some f →
    (s.port = .host ∧ m.toNat < s.cfg.motorCount ∧ f.ready = true →
      ∃ (d : Nat → BitVec 23) (n : Nat),
        let y := fadd (d 1) (fmul (d 0) f.b0 x) f.s1
        let n1 := fadd (d 5) (fsub (d 4) (fmul (d 2) f.b1 x) (fmul (d 3) f.a1 y)) f.s2
        let n2 := fsub (d 8) (fmul (d 6) f.b2 x) (fmul (d 7) f.a2 y)
        Completes (.filtApply m x) s
          { s with filt := s.filt.set m.toNat { f with s1 := n1, s2 := n2, inp := x, out := y }, draws := n } y) ∧
    (¬ (s.port = .host ∧ m.toNat < s.cfg.motorCount ∧ f.ready = true) →
      IllegalOutcome (exec (.filtApply m x) s) s)

/-- R214, with the selectors of R112: `FILT.READ m, f`, whether or not the filter is ready. -/
def Obligations.FiltReadAnswersTheField : Prop :=
  (∀ (w : Word) (m f : Byte) (rest : List Word), decode (w :: rest) = .ok (.filtRead m f, rest) ↔
      w &&& 0xFF00FF00 = 0x43000000 ∧ w.extractLsb' 16 8 = m ∧ w.extractLsb' 0 8 = f) ∧
  ∀ (m f : Byte) (s : State),
    (∀ b v, s.filt[m.toNat]? = some b → s.port = .host ∧ m.toNat < s.cfg.motorCount →
      [b.inp, b.out, b.s1, b.s2, b.b0, b.b1, b.b2, b.a1, b.a2][f.toNat]? = some v →
      Completes (.filtRead m f) s s v) ∧
    (¬ (s.port = .host ∧ m.toNat < s.cfg.motorCount ∧ f.toNat ≤ 8) →
      IllegalOutcome (exec (.filtRead m f) s) s)

/-- R210: `fadd` and `fsub` of finite numbers are the exact sum and difference, rounded once to nearest
with ties to even; an exact zero is +0 unless both terms are negative (IEEE 754, log 10). -/
def Obligations.AdditionIsCorrectlyRounded : Prop :=
  ∀ (d : BitVec 23) (x y : F32), f32IsFinite x → f32IsFinite y →
    (f32Units x + f32Units y ≠ 0 → RoundedTo (f32Units x + f32Units y) 0 (fadd d x y)) ∧
    (f32Units x + f32Units y = 0 → fadd d x y = if f32Sign x ∧ f32Sign y then 0x80000000 else 0) ∧
    (f32Units x - f32Units y ≠ 0 → RoundedTo (f32Units x - f32Units y) 0 (fsub d x y)) ∧
    (f32Units x - f32Units y = 0 → fsub d x y = if f32Sign x ∧ ¬ f32Sign y then 0x80000000 else 0)

/-- R210: `fmul` of finite numbers is the exact product, rounded once to nearest with ties to even; an
exact zero has the exclusive or of the signs (IEEE 754, log 10). -/
def Obligations.MultiplicationIsCorrectlyRounded : Prop :=
  ∀ (d : BitVec 23) (x y : F32), f32IsFinite x → f32IsFinite y →
    (f32Units x * f32Units y ≠ 0 → RoundedTo (f32Units x * f32Units y) 149 (fmul d x y)) ∧
    (f32Units x * f32Units y = 0 → fmul d x y = if f32Sign x = f32Sign y then 0 else 0x80000000)

/-- R210: a NaN result is a quiet NaN that the draw decides, and every quiet NaN can be drawn; infinities
follow IEEE 754. That bit 22 marks a quiet NaN (log 9) and the IEEE rules for infinities (log 10) are the
model's, PRESUMED from the standard. -/
def Obligations.NaNsAreDrawnAndInfinitiesFollowIeee : Prop :=
  (∀ d : BitVec 23, f32IsQuietNaN (f32Drawn d)) ∧
  (∀ q : F32, f32IsQuietNaN q → ∃ d, f32Drawn d = q) ∧
  ∀ (d : BitVec 23) (x y : F32),
    (f32IsNaN x ∨ f32IsNaN y → fadd d x y = f32Drawn d ∧ fsub d x y = f32Drawn d ∧ fmul d x y = f32Drawn d) ∧
    (f32IsInf x → f32IsInf y → f32Sign x ≠ f32Sign y → fadd d x y = f32Drawn d ∧ fsub d x y = x) ∧
    (f32IsInf x → f32IsInf y → f32Sign x = f32Sign y → fsub d x y = f32Drawn d ∧ fadd d x y = x) ∧
    (f32IsInf x → f32IsFinite y → fadd d x y = x ∧ fadd d y x = x ∧ fsub d x y = x ∧
      f32IsInf (fsub d y x) ∧ f32Sign (fsub d y x) = !f32Sign x) ∧
    (f32IsInf x → f32IsZero y → fmul d x y = f32Drawn d ∧ fmul d y x = f32Drawn d) ∧
    (f32IsInf x → ¬ f32IsNaN y → ¬ f32IsZero y →
      f32IsInf (fmul d x y) ∧ f32Sign (fmul d x y) = (f32Sign x != f32Sign y) ∧ fmul d y x = fmul d x y)

/-- R213, R289: a NaN sample makes the answer, the output and both delay elements NaN; and after any commands
of either agent without a `FILT.INIT` of that motor they are still NaN, and the next sample, whatever it is,
is answered with a NaN. -/
def Obligations.NaNPoisonsTheFilter : Prop :=
  ∀ (s : State) (m : Byte) (x : F32) (later : List (Port × Instr)) (f : Biquad),
    s.filt[m.toNat]? = some f → m.toNat < s.cfg.motorCount → f.ready = true → f32IsNaN x →
    (∀ c ∈ later, ∀ cutoff looptime, c.2 ≠ .filtInit m cutoff looptime) →
      ∃ t g v, runCommands ((.host, .filtApply m x) :: later) s = .next t ∧
        t.hostOut[s.hostOut.length]? = some ⟨.ok, v⟩ ∧ f32IsNaN v ∧
        t.filt[m.toNat]? = some g ∧ f32IsNaN g.out ∧ f32IsNaN g.s1 ∧ f32IsNaN g.s2 ∧
        ∀ z : F32, ∃ u w, exec (.filtApply m z) { t with port := .host } = .next u ∧
          State.Responds { t with port := .host } u .host .ok w ∧ f32IsNaN w

/-- R213: filter `m` uses only `filt[m]`: an apply leaves the other filters as they were, and from two states
with the same filter, port, configuration and NaN draws, whatever else they hold, it leaves the same filter
and gives the same response. -/
def Obligations.MotorsDoNotInteract : Prop :=
  (∀ (s t : State) (m : Byte) (x : F32) (k : Nat), exec (.filtApply m x) s = .next t → k ≠ m.toNat →
    t.filt[k]? = s.filt[k]?) ∧
  ∀ (s s' t t' : State) (m : Byte) (x : F32) (f : Biquad),
    exec (.filtApply m x) s = .next t → exec (.filtApply m x) s' = .next t' →
    s.port = s'.port → s.cfg = s'.cfg → s.draws = s'.draws →
    s.filt[m.toNat]? = some f → s'.filt[m.toNat]? = some f →
      t.filt[m.toNat]? = t'.filt[m.toNat]? ∧
        ∃ r : Response, t.output s.port = s.output s.port ++ [r] ∧ t'.output s.port = s'.output s.port ++ [r]

/-- R211, its example: the coefficients of `BQ_COEFF_ref(100, 1000)`. -/
def Obligations.ReferenceCoefficientsExample : Prop :=
  IsBqCoeffRef 100 1000
    { b0 := 0x3D8A25FE, b1 := 0x3E0A25FE, b2 := 0x3D8A25FE, a1 := 0xBF924D2F, a2 := 0x3ED35ABB }
end

