-- ==== Sys2Proof/Laws/State.lean ====
section
/-! SUPPORT. One lemma per field per update of the state, so that no proof unfolds an update. -/
namespace Sys2Proof.Machine

/-! ### `respond` -/

@[simp] theorem respond_cfg (s : State) (a : Ack) (v : Word) : (s.respond a v).cfg = s.cfg := by unfold State.respond; split <;> rfl
@[simp] theorem respond_kissBuf (s : State) (a : Ack) (v : Word) : (s.respond a v).kissBuf = s.kissBuf := by unfold State.respond; split <;> rfl
@[simp] theorem respond_kissPos (s : State) (a : Ack) (v : Word) : (s.respond a v).kissPos = s.kissPos := by unfold State.respond; split <;> rfl
@[simp] theorem respond_kissMotor (s : State) (a : Ack) (v : Word) : (s.respond a v).kissMotor = s.kissMotor := by unfold State.respond; split <;> rfl
@[simp] theorem respond_recs (s : State) (a : Ack) (v : Word) : (s.respond a v).recs = s.recs := by unfold State.respond; split <;> rfl
@[simp] theorem respond_dirty (s : State) (a : Ack) (v : Word) : (s.respond a v).dirty = s.dirty := by unfold State.respond; split <;> rfl
@[simp] theorem respond_hw4Buf (s : State) (a : Ack) (v : Word) : (s.respond a v).hw4Buf = s.hw4Buf := by unfold State.respond; split <;> rfl
@[simp] theorem respond_hw4Read (s : State) (a : Ack) (v : Word) : (s.respond a v).hw4Read = s.hw4Read := by unfold State.respond; split <;> rfl
@[simp] theorem respond_hw4Skip (s : State) (a : Ack) (v : Word) : (s.respond a v).hw4Skip = s.hw4Skip := by unfold State.respond; split <;> rfl
@[simp] theorem respond_hw4Raw (s : State) (a : Ack) (v : Word) : (s.respond a v).hw4Raw = s.hw4Raw := by unfold State.respond; split <;> rfl
@[simp] theorem respond_crcErrorCount (s : State) (a : Ack) (v : Word) : (s.respond a v).crcErrorCount = s.crcErrorCount := by unfold State.respond; split <;> rfl
@[simp] theorem respond_cmdError (s : State) (a : Ack) (v : Word) : (s.respond a v).cmdError = s.cmdError := by unfold State.respond; split <;> rfl
@[simp] theorem respond_filt (s : State) (a : Ack) (v : Word) : (s.respond a v).filt = s.filt := by unfold State.respond; split <;> rfl
@[simp] theorem respond_port (s : State) (a : Ack) (v : Word) : (s.respond a v).port = s.port := by unfold State.respond; split <;> rfl
@[simp] theorem respond_turns (s : State) (a : Ack) (v : Word) : (s.respond a v).turns = s.turns := by unfold State.respond; split <;> rfl
@[simp] theorem respond_hostIn (s : State) (a : Ack) (v : Word) : (s.respond a v).hostIn = s.hostIn := by unfold State.respond; split <;> rfl
@[simp] theorem respond_rxIn (s : State) (a : Ack) (v : Word) : (s.respond a v).rxIn = s.rxIn := by unfold State.respond; split <;> rfl
@[simp] theorem respond_draws (s : State) (a : Ack) (v : Word) : (s.respond a v).draws = s.draws := by unfold State.respond; split <;> rfl

/-! ### `setRecord` -/

@[simp] theorem setRecord_cfg (s : State) (m : Byte) (r : KissRecord) : (s.setRecord m r).cfg = s.cfg := rfl
@[simp] theorem setRecord_kissBuf (s : State) (m : Byte) (r : KissRecord) : (s.setRecord m r).kissBuf = s.kissBuf := rfl
@[simp] theorem setRecord_kissPos (s : State) (m : Byte) (r : KissRecord) : (s.setRecord m r).kissPos = s.kissPos := rfl
@[simp] theorem setRecord_kissMotor (s : State) (m : Byte) (r : KissRecord) : (s.setRecord m r).kissMotor = s.kissMotor := rfl
@[simp] theorem setRecord_recs (s : State) (m : Byte) (r : KissRecord) : (s.setRecord m r).recs = s.recs.set m.toNat r := rfl
@[simp] theorem setRecord_dirty (s : State) (m : Byte) (r : KissRecord) : (s.setRecord m r).dirty = s.dirty := rfl
@[simp] theorem setRecord_hw4Buf (s : State) (m : Byte) (r : KissRecord) : (s.setRecord m r).hw4Buf = s.hw4Buf := rfl
@[simp] theorem setRecord_hw4Read (s : State) (m : Byte) (r : KissRecord) : (s.setRecord m r).hw4Read = s.hw4Read := rfl
@[simp] theorem setRecord_hw4Skip (s : State) (m : Byte) (r : KissRecord) : (s.setRecord m r).hw4Skip = s.hw4Skip := rfl
@[simp] theorem setRecord_hw4Raw (s : State) (m : Byte) (r : KissRecord) : (s.setRecord m r).hw4Raw = s.hw4Raw := rfl
@[simp] theorem setRecord_crcErrorCount (s : State) (m : Byte) (r : KissRecord) : (s.setRecord m r).crcErrorCount = s.crcErrorCount := rfl
@[simp] theorem setRecord_cmdError (s : State) (m : Byte) (r : KissRecord) : (s.setRecord m r).cmdError = s.cmdError := rfl
@[simp] theorem setRecord_filt (s : State) (m : Byte) (r : KissRecord) : (s.setRecord m r).filt = s.filt := rfl
@[simp] theorem setRecord_port (s : State) (m : Byte) (r : KissRecord) : (s.setRecord m r).port = s.port := rfl
@[simp] theorem setRecord_turns (s : State) (m : Byte) (r : KissRecord) : (s.setRecord m r).turns = s.turns := rfl
@[simp] theorem setRecord_hostIn (s : State) (m : Byte) (r : KissRecord) : (s.setRecord m r).hostIn = s.hostIn := rfl
@[simp] theorem setRecord_rxIn (s : State) (m : Byte) (r : KissRecord) : (s.setRecord m r).rxIn = s.rxIn := rfl
@[simp] theorem setRecord_hostOut (s : State) (m : Byte) (r : KissRecord) : (s.setRecord m r).hostOut = s.hostOut := rfl
@[simp] theorem setRecord_rxOut (s : State) (m : Byte) (r : KissRecord) : (s.setRecord m r).rxOut = s.rxOut := rfl
@[simp] theorem setRecord_draws (s : State) (m : Byte) (r : KissRecord) : (s.setRecord m r).draws = s.draws := rfl

/-! ### `setFilter` -/

@[simp] theorem setFilter_cfg (s : State) (m : Byte) (f : Biquad) : (s.setFilter m f).cfg = s.cfg := rfl
@[simp] theorem setFilter_kissBuf (s : State) (m : Byte) (f : Biquad) : (s.setFilter m f).kissBuf = s.kissBuf := rfl
@[simp] theorem setFilter_kissPos (s : State) (m : Byte) (f : Biquad) : (s.setFilter m f).kissPos = s.kissPos := rfl
@[simp] theorem setFilter_kissMotor (s : State) (m : Byte) (f : Biquad) : (s.setFilter m f).kissMotor = s.kissMotor := rfl
@[simp] theorem setFilter_recs (s : State) (m : Byte) (f : Biquad) : (s.setFilter m f).recs = s.recs := rfl
@[simp] theorem setFilter_dirty (s : State) (m : Byte) (f : Biquad) : (s.setFilter m f).dirty = s.dirty := rfl
@[simp] theorem setFilter_hw4Buf (s : State) (m : Byte) (f : Biquad) : (s.setFilter m f).hw4Buf = s.hw4Buf := rfl
@[simp] theorem setFilter_hw4Read (s : State) (m : Byte) (f : Biquad) : (s.setFilter m f).hw4Read = s.hw4Read := rfl
@[simp] theorem setFilter_hw4Skip (s : State) (m : Byte) (f : Biquad) : (s.setFilter m f).hw4Skip = s.hw4Skip := rfl
@[simp] theorem setFilter_hw4Raw (s : State) (m : Byte) (f : Biquad) : (s.setFilter m f).hw4Raw = s.hw4Raw := rfl
@[simp] theorem setFilter_crcErrorCount (s : State) (m : Byte) (f : Biquad) : (s.setFilter m f).crcErrorCount = s.crcErrorCount := rfl
@[simp] theorem setFilter_cmdError (s : State) (m : Byte) (f : Biquad) : (s.setFilter m f).cmdError = s.cmdError := rfl
@[simp] theorem setFilter_filt (s : State) (m : Byte) (f : Biquad) : (s.setFilter m f).filt = s.filt.set m.toNat f := rfl
@[simp] theorem setFilter_port (s : State) (m : Byte) (f : Biquad) : (s.setFilter m f).port = s.port := rfl
@[simp] theorem setFilter_turns (s : State) (m : Byte) (f : Biquad) : (s.setFilter m f).turns = s.turns := rfl
@[simp] theorem setFilter_hostIn (s : State) (m : Byte) (f : Biquad) : (s.setFilter m f).hostIn = s.hostIn := rfl
@[simp] theorem setFilter_rxIn (s : State) (m : Byte) (f : Biquad) : (s.setFilter m f).rxIn = s.rxIn := rfl
@[simp] theorem setFilter_hostOut (s : State) (m : Byte) (f : Biquad) : (s.setFilter m f).hostOut = s.hostOut := rfl
@[simp] theorem setFilter_rxOut (s : State) (m : Byte) (f : Biquad) : (s.setFilter m f).rxOut = s.rxOut := rfl
@[simp] theorem setFilter_draws (s : State) (m : Byte) (f : Biquad) : (s.setFilter m f).draws = s.draws := rfl

/-! ### `setDirty` -/

@[simp] theorem setDirty_cfg (s : State) : s.setDirty.cfg = s.cfg := rfl
@[simp] theorem setDirty_kissBuf (s : State) : s.setDirty.kissBuf = s.kissBuf := rfl
@[simp] theorem setDirty_kissPos (s : State) : s.setDirty.kissPos = s.kissPos := rfl
@[simp] theorem setDirty_kissMotor (s : State) : s.setDirty.kissMotor = s.kissMotor := rfl
@[simp] theorem setDirty_recs (s : State) : s.setDirty.recs = s.recs := rfl
@[simp] theorem setDirty_dirty (s : State) : s.setDirty.dirty = true := rfl
@[simp] theorem setDirty_hw4Buf (s : State) : s.setDirty.hw4Buf = s.hw4Buf := rfl
@[simp] theorem setDirty_hw4Read (s : State) : s.setDirty.hw4Read = s.hw4Read := rfl
@[simp] theorem setDirty_hw4Skip (s : State) : s.setDirty.hw4Skip = s.hw4Skip := rfl
@[simp] theorem setDirty_hw4Raw (s : State) : s.setDirty.hw4Raw = s.hw4Raw := rfl
@[simp] theorem setDirty_crcErrorCount (s : State) : s.setDirty.crcErrorCount = s.crcErrorCount := rfl
@[simp] theorem setDirty_cmdError (s : State) : s.setDirty.cmdError = s.cmdError := rfl
@[simp] theorem setDirty_filt (s : State) : s.setDirty.filt = s.filt := rfl
@[simp] theorem setDirty_port (s : State) : s.setDirty.port = s.port := rfl
@[simp] theorem setDirty_turns (s : State) : s.setDirty.turns = s.turns := rfl
@[simp] theorem setDirty_hostIn (s : State) : s.setDirty.hostIn = s.hostIn := rfl
@[simp] theorem setDirty_rxIn (s : State) : s.setDirty.rxIn = s.rxIn := rfl
@[simp] theorem setDirty_hostOut (s : State) : s.setDirty.hostOut = s.hostOut := rfl
@[simp] theorem setDirty_rxOut (s : State) : s.setDirty.rxOut = s.rxOut := rfl
@[simp] theorem setDirty_draws (s : State) : s.setDirty.draws = s.draws := rfl

/-! ### `clearDirty` -/

@[simp] theorem clearDirty_cfg (s : State) : s.clearDirty.cfg = s.cfg := rfl
@[simp] theorem clearDirty_kissBuf (s : State) : s.clearDirty.kissBuf = s.kissBuf := rfl
@[simp] theorem clearDirty_kissPos (s : State) : s.clearDirty.kissPos = s.kissPos := rfl
@[simp] theorem clearDirty_kissMotor (s : State) : s.clearDirty.kissMotor = s.kissMotor := rfl
@[simp] theorem clearDirty_recs (s : State) : s.clearDirty.recs = s.recs := rfl
@[simp] theorem clearDirty_dirty (s : State) : s.clearDirty.dirty = false := rfl
@[simp] theorem clearDirty_hw4Buf (s : State) : s.clearDirty.hw4Buf = s.hw4Buf := rfl
@[simp] theorem clearDirty_hw4Read (s : State) : s.clearDirty.hw4Read = s.hw4Read := rfl
@[simp] theorem clearDirty_hw4Skip (s : State) : s.clearDirty.hw4Skip = s.hw4Skip := rfl
@[simp] theorem clearDirty_hw4Raw (s : State) : s.clearDirty.hw4Raw = s.hw4Raw := rfl
@[simp] theorem clearDirty_crcErrorCount (s : State) : s.clearDirty.crcErrorCount = s.crcErrorCount := rfl
@[simp] theorem clearDirty_cmdError (s : State) : s.clearDirty.cmdError = s.cmdError := rfl
@[simp] theorem clearDirty_filt (s : State) : s.clearDirty.filt = s.filt := rfl
@[simp] theorem clearDirty_port (s : State) : s.clearDirty.port = s.port := rfl
@[simp] theorem clearDirty_turns (s : State) : s.clearDirty.turns = s.turns := rfl
@[simp] theorem clearDirty_hostIn (s : State) : s.clearDirty.hostIn = s.hostIn := rfl
@[simp] theorem clearDirty_rxIn (s : State) : s.clearDirty.rxIn = s.rxIn := rfl
@[simp] theorem clearDirty_hostOut (s : State) : s.clearDirty.hostOut = s.hostOut := rfl
@[simp] theorem clearDirty_rxOut (s : State) : s.clearDirty.rxOut = s.rxOut := rfl
@[simp] theorem clearDirty_draws (s : State) : s.clearDirty.draws = s.draws := rfl

/-! ### `countError` -/

@[simp] theorem countError_cfg (s : State) : s.countError.cfg = s.cfg := rfl
@[simp] theorem countError_kissBuf (s : State) : s.countError.kissBuf = s.kissBuf := rfl
@[simp] theorem countError_kissPos (s : State) : s.countError.kissPos = s.kissPos := rfl
@[simp] theorem countError_kissMotor (s : State) : s.countError.kissMotor = s.kissMotor := rfl
@[simp] theorem countError_recs (s : State) : s.countError.recs = s.recs := rfl
@[simp] theorem countError_dirty (s : State) : s.countError.dirty = s.dirty := rfl
@[simp] theorem countError_hw4Buf (s : State) : s.countError.hw4Buf = s.hw4Buf := rfl
@[simp] theorem countError_hw4Read (s : State) : s.countError.hw4Read = s.hw4Read := rfl
@[simp] theorem countError_hw4Skip (s : State) : s.countError.hw4Skip = s.hw4Skip := rfl
@[simp] theorem countError_hw4Raw (s : State) : s.countError.hw4Raw = s.hw4Raw := rfl
@[simp] theorem countError_crcErrorCount (s : State) : s.countError.crcErrorCount = s.crcErrorCount + 1 := rfl
@[simp] theorem countError_cmdError (s : State) : s.countError.cmdError = s.cmdError := rfl
@[simp] theorem countError_filt (s : State) : s.countError.filt = s.filt := rfl
@[simp] theorem countError_port (s : State) : s.countError.port = s.port := rfl
@[simp] theorem countError_turns (s : State) : s.countError.turns = s.turns := rfl
@[simp] theorem countError_hostIn (s : State) : s.countError.hostIn = s.hostIn := rfl
@[simp] theorem countError_rxIn (s : State) : s.countError.rxIn = s.rxIn := rfl
@[simp] theorem countError_hostOut (s : State) : s.countError.hostOut = s.hostOut := rfl
@[simp] theorem countError_rxOut (s : State) : s.countError.rxOut = s.rxOut := rfl
@[simp] theorem countError_draws (s : State) : s.countError.draws = s.draws := rfl

/-! ### `useDraws` -/

@[simp] theorem useDraws_cfg (s : State) : s.useDraws.cfg = s.cfg := rfl
@[simp] theorem useDraws_kissBuf (s : State) : s.useDraws.kissBuf = s.kissBuf := rfl
@[simp] theorem useDraws_kissPos (s : State) : s.useDraws.kissPos = s.kissPos := rfl
@[simp] theorem useDraws_kissMotor (s : State) : s.useDraws.kissMotor = s.kissMotor := rfl
@[simp] theorem useDraws_recs (s : State) : s.useDraws.recs = s.recs := rfl
@[simp] theorem useDraws_dirty (s : State) : s.useDraws.dirty = s.dirty := rfl
@[simp] theorem useDraws_hw4Buf (s : State) : s.useDraws.hw4Buf = s.hw4Buf := rfl
@[simp] theorem useDraws_hw4Read (s : State) : s.useDraws.hw4Read = s.hw4Read := rfl
@[simp] theorem useDraws_hw4Skip (s : State) : s.useDraws.hw4Skip = s.hw4Skip := rfl
@[simp] theorem useDraws_hw4Raw (s : State) : s.useDraws.hw4Raw = s.hw4Raw := rfl
@[simp] theorem useDraws_crcErrorCount (s : State) : s.useDraws.crcErrorCount = s.crcErrorCount := rfl
@[simp] theorem useDraws_cmdError (s : State) : s.useDraws.cmdError = s.cmdError := rfl
@[simp] theorem useDraws_filt (s : State) : s.useDraws.filt = s.filt := rfl
@[simp] theorem useDraws_port (s : State) : s.useDraws.port = s.port := rfl
@[simp] theorem useDraws_turns (s : State) : s.useDraws.turns = s.turns := rfl
@[simp] theorem useDraws_hostIn (s : State) : s.useDraws.hostIn = s.hostIn := rfl
@[simp] theorem useDraws_rxIn (s : State) : s.useDraws.rxIn = s.rxIn := rfl
@[simp] theorem useDraws_hostOut (s : State) : s.useDraws.hostOut = s.hostOut := rfl
@[simp] theorem useDraws_rxOut (s : State) : s.useDraws.rxOut = s.rxOut := rfl
@[simp] theorem useDraws_draws (s : State) : s.useDraws.draws = s.draws + drawsPerApply := rfl

/-! ### `setInput` -/

@[simp] theorem setInput_cfg (s : State) (p : Port) (ws : List Word) : (s.setInput p ws).cfg = s.cfg := by cases p <;> rfl
@[simp] theorem setInput_kissBuf (s : State) (p : Port) (ws : List Word) : (s.setInput p ws).kissBuf = s.kissBuf := by cases p <;> rfl
@[simp] theorem setInput_kissPos (s : State) (p : Port) (ws : List Word) : (s.setInput p ws).kissPos = s.kissPos := by cases p <;> rfl
@[simp] theorem setInput_kissMotor (s : State) (p : Port) (ws : List Word) : (s.setInput p ws).kissMotor = s.kissMotor := by cases p <;> rfl
@[simp] theorem setInput_recs (s : State) (p : Port) (ws : List Word) : (s.setInput p ws).recs = s.recs := by cases p <;> rfl
@[simp] theorem setInput_dirty (s : State) (p : Port) (ws : List Word) : (s.setInput p ws).dirty = s.dirty := by cases p <;> rfl
@[simp] theorem setInput_hw4Buf (s : State) (p : Port) (ws : List Word) : (s.setInput p ws).hw4Buf = s.hw4Buf := by cases p <;> rfl
@[simp] theorem setInput_hw4Read (s : State) (p : Port) (ws : List Word) : (s.setInput p ws).hw4Read = s.hw4Read := by cases p <;> rfl
@[simp] theorem setInput_hw4Skip (s : State) (p : Port) (ws : List Word) : (s.setInput p ws).hw4Skip = s.hw4Skip := by cases p <;> rfl
@[simp] theorem setInput_hw4Raw (s : State) (p : Port) (ws : List Word) : (s.setInput p ws).hw4Raw = s.hw4Raw := by cases p <;> rfl
@[simp] theorem setInput_crcErrorCount (s : State) (p : Port) (ws : List Word) : (s.setInput p ws).crcErrorCount = s.crcErrorCount := by cases p <;> rfl
@[simp] theorem setInput_cmdError (s : State) (p : Port) (ws : List Word) : (s.setInput p ws).cmdError = s.cmdError := by cases p <;> rfl
@[simp] theorem setInput_filt (s : State) (p : Port) (ws : List Word) : (s.setInput p ws).filt = s.filt := by cases p <;> rfl
@[simp] theorem setInput_port (s : State) (p : Port) (ws : List Word) : (s.setInput p ws).port = s.port := by cases p <;> rfl
@[simp] theorem setInput_turns (s : State) (p : Port) (ws : List Word) : (s.setInput p ws).turns = s.turns := by cases p <;> rfl
@[simp] theorem setInput_hostOut (s : State) (p : Port) (ws : List Word) : (s.setInput p ws).hostOut = s.hostOut := by cases p <;> rfl
@[simp] theorem setInput_rxOut (s : State) (p : Port) (ws : List Word) : (s.setInput p ws).rxOut = s.rxOut := by cases p <;> rfl
@[simp] theorem setInput_draws (s : State) (p : Port) (ws : List Word) : (s.setInput p ws).draws = s.draws := by cases p <;> rfl

/-! ### `taken` -/

@[simp] theorem taken_cfg (s : State) (p : Port) (ts : List Port) (ws : List Word) : (s.taken p ts ws).cfg = s.cfg := by cases p <;> rfl
@[simp] theorem taken_kissBuf (s : State) (p : Port) (ts : List Port) (ws : List Word) : (s.taken p ts ws).kissBuf = s.kissBuf := by cases p <;> rfl
@[simp] theorem taken_kissPos (s : State) (p : Port) (ts : List Port) (ws : List Word) : (s.taken p ts ws).kissPos = s.kissPos := by cases p <;> rfl
@[simp] theorem taken_kissMotor (s : State) (p : Port) (ts : List Port) (ws : List Word) : (s.taken p ts ws).kissMotor = s.kissMotor := by cases p <;> rfl
@[simp] theorem taken_recs (s : State) (p : Port) (ts : List Port) (ws : List Word) : (s.taken p ts ws).recs = s.recs := by cases p <;> rfl
@[simp] theorem taken_dirty (s : State) (p : Port) (ts : List Port) (ws : List Word) : (s.taken p ts ws).dirty = s.dirty := by cases p <;> rfl
@[simp] theorem taken_hw4Buf (s : State) (p : Port) (ts : List Port) (ws : List Word) : (s.taken p ts ws).hw4Buf = s.hw4Buf := by cases p <;> rfl
@[simp] theorem taken_hw4Read (s : State) (p : Port) (ts : List Port) (ws : List Word) : (s.taken p ts ws).hw4Read = s.hw4Read := by cases p <;> rfl
@[simp] theorem taken_hw4Skip (s : State) (p : Port) (ts : List Port) (ws : List Word) : (s.taken p ts ws).hw4Skip = s.hw4Skip := by cases p <;> rfl
@[simp] theorem taken_hw4Raw (s : State) (p : Port) (ts : List Port) (ws : List Word) : (s.taken p ts ws).hw4Raw = s.hw4Raw := by cases p <;> rfl
@[simp] theorem taken_crcErrorCount (s : State) (p : Port) (ts : List Port) (ws : List Word) : (s.taken p ts ws).crcErrorCount = s.crcErrorCount := by cases p <;> rfl
@[simp] theorem taken_cmdError (s : State) (p : Port) (ts : List Port) (ws : List Word) : (s.taken p ts ws).cmdError = s.cmdError := by cases p <;> rfl
@[simp] theorem taken_filt (s : State) (p : Port) (ts : List Port) (ws : List Word) : (s.taken p ts ws).filt = s.filt := by cases p <;> rfl
@[simp] theorem taken_port (s : State) (p : Port) (ts : List Port) (ws : List Word) : (s.taken p ts ws).port = p := by cases p <;> rfl
@[simp] theorem taken_turns (s : State) (p : Port) (ts : List Port) (ws : List Word) : (s.taken p ts ws).turns = ts := by cases p <;> rfl
@[simp] theorem taken_hostOut (s : State) (p : Port) (ts : List Port) (ws : List Word) : (s.taken p ts ws).hostOut = s.hostOut := by cases p <;> rfl
@[simp] theorem taken_rxOut (s : State) (p : Port) (ts : List Port) (ws : List Word) : (s.taken p ts ws).rxOut = s.rxOut := by cases p <;> rfl
@[simp] theorem taken_draws (s : State) (p : Port) (ts : List Port) (ws : List Word) : (s.taken p ts ws).draws = s.draws := by cases p <;> rfl

/-! ### Ports and responses -/

@[simp] theorem input_setInput_same (s : State) (p : Port) (ws : List Word) :
    (s.setInput p ws).input p = ws := by cases p <;> rfl

@[simp] theorem input_setInput_other (s : State) (p q : Port) (ws : List Word) (h : q ≠ p) :
    (s.setInput p ws).input q = s.input q := by
  cases p <;> cases q <;> first | rfl | exact absurd rfl h

@[simp] theorem input_taken_same (s : State) (p : Port) (ts : List Port) (ws : List Word) :
    (s.taken p ts ws).input p = ws := by cases p <;> rfl

@[simp] theorem input_taken_other (s : State) (p q : Port) (ts : List Port) (ws : List Word) (h : q ≠ p) :
    (s.taken p ts ws).input q = s.input q := by
  cases p <;> cases q <;> first | rfl | exact absurd rfl h

@[simp] theorem input_respond (s : State) (a : Ack) (v : Word) (p : Port) :
    (s.respond a v).input p = s.input p := by cases p <;> simp [State.input]

@[simp] theorem output_taken (s : State) (p q : Port) (ts : List Port) (ws : List Word) :
    (s.taken p ts ws).output q = s.output q := by cases p <;> cases q <;> rfl

theorem output_respond_same (s : State) (a : Ack) (v : Word) :
    (s.respond a v).output s.port = s.output s.port ++ [⟨a, v⟩] := by
  cases h : s.port <;> simp [State.respond, State.output, h]

theorem output_respond_other (s : State) (a : Ack) (v : Word) (q : Port) (h : q ≠ s.port) :
    (s.respond a v).output q = s.output q := by
  cases h' : s.port <;> cases q <;> simp_all [State.respond, State.output]

/-! ### The banks -/

theorem record_setRecord_same (s : State) (m : Byte) (r : KissRecord) (h : m.toNat < s.recs.length) :
    (s.setRecord m r).record m = r := by simp [State.record, State.setRecord, h]

theorem record_setRecord_other (s : State) (m k : Byte) (r : KissRecord) (h : k ≠ m) :
    (s.setRecord m r).record k = s.record k := by
  have hn : m.toNat ≠ k.toNat := fun e => h (BitVec.eq_of_toNat_eq e).symm
  simp [State.record, State.setRecord, List.getElem?_set_ne hn]

theorem record_of_getElem? (s : State) (m : Byte) (r : KissRecord) (h : s.recs[m.toNat]? = some r) :
    s.record m = r := by simp [State.record, h]

theorem filter_setFilter_same (s : State) (m : Byte) (f : Biquad) (h : m.toNat < s.filt.length) :
    (s.setFilter m f).filter m = f := by simp [State.filter, State.setFilter, h]

theorem filter_setFilter_other (s : State) (m k : Byte) (f : Biquad) (h : k ≠ m) :
    (s.setFilter m f).filter k = s.filter k := by
  have hn : m.toNat ≠ k.toNat := fun e => h (BitVec.eq_of_toNat_eq e).symm
  simp [State.filter, State.setFilter, List.getElem?_set_ne hn]

theorem filter_of_getElem? (s : State) (m : Byte) (f : Biquad) (h : s.filt[m.toNat]? = some f) :
    s.filter m = f := by simp [State.filter, h]

end Sys2Proof.Machine
end

