-- ==== Sys2Proof/Laws/Ops.lean ====
section
/-! SUPPORT. What each shared operation can do, said once. -/
namespace Sys2Proof.Machine

/-! ### Responses and the Illegal outcome -/

theorem otherPort_ne (p : Port) : otherPort p ≠ p := by cases p <;> simp [otherPort]

/-- A response is one response, to the issuing agent, of the given code and data (R104). -/
theorem responds_respond (s : State) (a : Ack) (v : Word) : s.Responds (s.respond a v) s.port a v :=
  ⟨output_respond_same s a v, output_respond_other s a v _ (otherPort_ne s.port)⟩

/-- A response changes nothing else (R104). -/
theorem sameBlock_respond (s : State) (a : Ack) (v : Word) : s.SameBlock (s.respond a v) := by
  simp [State.SameBlock, State.SamePorts, State.SameKiss, State.SameHw4, State.SameFilters]

/-- `(OK, v)` from a state whose outputs and port are those of `s`: one OK response (R104). -/
theorem responds_answer (s u : State) (v : Word) (hp : u.port = s.port) (ho : ∀ q, u.output q = s.output q) :
    s.Responds (u.respond .ok v) s.port .ok v := by
  have h := responds_respond u .ok v
  rw [hp] at h
  exact ⟨by rw [h.1, ho], by rw [h.2, ho]⟩

/-- `answer` ends the command with one OK response (R104). -/
theorem answer_next {s t : State} {v : Word} : answer s v = .next t ↔ s.respond .ok v = t := by
  simp [answer]

/-- `raiseIllegal` has the outcome of R251. -/
theorem raiseIllegal_outcome (s : State) : IllegalOutcome (raiseIllegal s) s :=
  ⟨_, rfl, sameBlock_respond _ _ _, responds_respond { s with cmdError := true } .illegal 0⟩

/-- The answers `OK` and `ILLEGAL` of one step exclude each other. -/
theorem responds_ack_unique {s t : State} {p : Port} {a b : Ack} {v w : Word}
    (h : s.Responds t p a v) (h' : s.Responds t p b w) : a = b ∧ v = w := by
  have e := h.1.symm.trans h'.1
  simpa using e

/-! ### The checks of R252 -/

@[simp] theorem guardedBy_true (s : State) (body : Result) : guardedBy true s body = body := rfl

@[simp] theorem guardedBy_false (s : State) (body : Result) : guardedBy false s body = raiseIllegal s := rfl

/-- A check either lets the body run or is Illegal. -/
theorem guardedBy_cases (ok : Bool) (s : State) (body : Result) :
    (ok = true ∧ guardedBy ok s body = body) ∨ (ok = false ∧ guardedBy ok s body = raiseIllegal s) := by
  cases ok <;> simp

/-- The port and protocol checks either let the body run or are Illegal (R252, 2 and 3). -/
theorem gated_cases (p : Port) (q : Option Proto) (s : State) (body : Result) :
    ((s.port = p ∧ ∀ x, q = some x → s.cfg.proto = x) ∧ gated p q s body = body) ∨
      (¬ (s.port = p ∧ ∀ x, q = some x → s.cfg.proto = x) ∧ gated p q s body = raiseIllegal s) := by
  unfold gated guardedBy
  cases q <;> by_cases hp : s.port = p <;> simp_all
  rename_i x
  by_cases hx : s.cfg.proto = x <;> simp_all

theorem gated_ok {p : Port} {q : Option Proto} {s : State} {body : Result} (hp : s.port = p)
    (hq : ∀ x, q = some x → s.cfg.proto = x) : gated p q s body = body := by
  rcases gated_cases p q s body with ⟨_, h⟩ | ⟨h, _⟩
  · exact h
  · exact absurd ⟨hp, hq⟩ h

theorem gated_illegal {p : Port} {q : Option Proto} {s : State} {body : Result}
    (h : ¬ (s.port = p ∧ ∀ x, q = some x → s.cfg.proto = x)) : gated p q s body = raiseIllegal s := by
  rcases gated_cases p q s body with ⟨h', _⟩ | ⟨_, h'⟩
  · exact absurd h' h
  · exact h'

/-! ### Taking a command from a port -/

/-- What a step takes: nothing for want of a turn or of a whole command, an unmatched word, or a
command (R105, R107). -/
theorem fetch_cases (s : State) :
    (s.turns = [] ∧ fetch s = .idle s) ∨
      ∃ p ts, s.turns = p :: ts ∧
        ((∃ i rest, decode (s.input p) = .ok (i, rest) ∧ fetch s = .command i (s.taken p ts rest)) ∨
          (∃ w, decode (s.input p) = .error (.noRow w) ∧
            fetch s = .unmatched (s.taken p ts ((s.input p).drop 1))) ∨
          (∃ e, decode (s.input p) = .error e ∧ (∀ w, e ≠ .noRow w) ∧
            fetch s = .idle { s with turns := ts })) := by
  cases ht : s.turns with
  | nil => simp [fetch, ht]
  | cons p ts =>
    refine .inr ⟨p, ts, rfl, ?_⟩
    cases hd : decode (s.input p) with
    | ok x => exact .inl ⟨x.1, x.2, rfl, by simp [fetch, ht, hd]⟩
    | error e =>
      cases e with
      | noRow w => exact .inr (.inl ⟨w, rfl, by simp [fetch, ht, hd]⟩)
      | noWord => exact .inr (.inr ⟨_, rfl, by simp, by simp [fetch, ht, hd]⟩)
      | missingArgs m => exact .inr (.inr ⟨_, rfl, by simp, by simp [fetch, ht, hd]⟩)

/-- What a step of an admissible machine does: nothing but using a turn, an Illegal outcome, or one
command run in the state its words are taken from. -/
theorem step_cases {s t : State} (h : step s = .next t) :
    s.cfg.Valid ∧
      ((∃ ts, t = { s with turns := ts }) ∨
        (∃ p ts rest, raiseIllegal (s.taken p ts rest) = .next t) ∨
        (∃ i p ts rest, decode (s.input p) = .ok (i, rest) ∧ exec i (s.taken p ts rest) = .next t)) := by
  unfold step at h
  split at h
  case isFalse => cases h
  case isTrue hv =>
    refine ⟨hv, ?_⟩
    rcases fetch_cases s with ⟨ht, hf⟩ | ⟨p, ts, _, ⟨i, rest, hd, hf⟩ | ⟨w, _, hf⟩ | ⟨e, _, _, hf⟩⟩
    · rw [hf] at h
      cases h
      exact .inl ⟨s.turns, rfl⟩
    · rw [hf] at h
      exact .inr (.inr ⟨i, p, ts, rest, hd, h⟩)
    · rw [hf] at h
      exact .inr (.inl ⟨p, ts, _, h⟩)
    · rw [hf] at h
      cases h
      exact .inl ⟨ts, rfl⟩

/-! ### Sequences of commands -/

@[simp] theorem runCommands_nil (s : State) : runCommands [] s = .next s := rfl

theorem runCommands_cons_next {p : Port} {i : Instr} {rest : List (Port × Instr)} {s t : State}
    (h : exec i { s with port := p } = .next t) : runCommands ((p, i) :: rest) s = runCommands rest t := by
  simp [runCommands, h]

/-- A list of commands runs as its first part and then the rest. -/
theorem runCommands_append {a b : List (Port × Instr)} {s t : State} (h : runCommands a s = .next t) :
    runCommands (a ++ b) s = runCommands b t := by
  induction a generalizing s with
  | nil =>
    cases h
    rfl
  | cons c a ih =>
    obtain ⟨p, i⟩ := c
    simp only [runCommands, List.cons_append] at h ⊢
    split at h
    case h_1 u hu => exact ih h
    case h_2 => cases h
    case h_3 => cases h

/-! ### The synchroniser, the data age and the CRC -/

/-- The synchroniser's six cases, in the order of R180. -/
theorem hw4Sync_cases (b : Byte) (s : State) :
    (s.hw4Skip > 0 ∧ hw4Sync b s = ({ s with hw4Skip := s.hw4Skip - 1 }, false)) ∨
      (¬ s.hw4Skip > 0 ∧ s.hw4Read = 0 ∧ b = hw4SyncMarker ∧
        hw4Sync b s = ({ s with hw4Buf := s.hw4Buf.set 0 b, hw4Read := 1 }, false)) ∨
      (¬ s.hw4Skip > 0 ∧ s.hw4Read = 0 ∧ b ≠ hw4SyncMarker ∧ hw4Sync b s = (s, false)) ∨
      (¬ s.hw4Skip > 0 ∧ s.hw4Read = 1 ∧ b = hw4SyncMarker ∧
        hw4Sync b s = ({ s with hw4Read := 0, hw4Skip := hw4SigSkip }, false)) ∨
      (¬ s.hw4Skip > 0 ∧ s.hw4Read ≠ 0 ∧ ¬ (s.hw4Read = 1 ∧ b = hw4SyncMarker) ∧ s.hw4Read + 1 = hw4FrameLen ∧
        hw4Sync b s = ({ s with hw4Buf := s.hw4Buf.setIfInBounds s.hw4Read.toNat b, hw4Read := 0 }, true)) ∨
      (¬ s.hw4Skip > 0 ∧ s.hw4Read ≠ 0 ∧ ¬ (s.hw4Read = 1 ∧ b = hw4SyncMarker) ∧ s.hw4Read + 1 ≠ hw4FrameLen ∧
        hw4Sync b s =
          ({ s with hw4Buf := s.hw4Buf.setIfInBounds s.hw4Read.toNat b, hw4Read := s.hw4Read + 1 }, false)) := by
  unfold hw4Sync
  by_cases h1 : s.hw4Skip > 0
  · exact .inl ⟨h1, if_pos h1⟩
  · refine .inr ?_
    by_cases h2 : s.hw4Read = 0
    · by_cases h3 : b = hw4SyncMarker
      · exact .inl ⟨h1, h2, h3, by rw [if_neg h1, if_pos h2, if_pos h3]⟩
      · exact .inr (.inl ⟨h1, h2, h3, by rw [if_neg h1, if_pos h2, if_neg h3]⟩)
    · refine .inr (.inr ?_)
      by_cases h3 : s.hw4Read = 1 ∧ b = hw4SyncMarker
      · exact .inl ⟨h1, h3.1, h3.2, by rw [if_neg h1, if_neg h2, if_pos h3]⟩
      · refine .inr ?_
        by_cases h4 : s.hw4Read + 1 = hw4FrameLen
        · exact .inl ⟨h1, h2, h3, h4, by rw [if_neg h1, if_neg h2, if_neg h3]; exact if_pos h4⟩
        · exact .inr ⟨h1, h2, h3, h4, by rw [if_neg h1, if_neg h2, if_neg h3]; exact if_neg h4⟩

/-- One bump of an age within its ceiling: one more, or the ceiling kept (R37, R146). -/
theorem bumpAge_toNat (ceiling age : Byte) (h : age.toNat ≤ ceiling.toNat) :
    (bumpAge ceiling age).toNat = min (age.toNat + 1) ceiling.toNat := by
  unfold bumpAge
  split <;> rename_i hlt <;> simp only [BitVec.lt_def] at hlt
  · have := ceiling.isLt
    rw [BitVec.toNat_add, show (1 : Byte).toNat = 1 from rfl]
    omega
  · omega

@[simp] theorem crc8_nil : crc8 [] = 0 := rfl

theorem crc8_append_singleton (bytes : List Byte) (b : Byte) : crc8 (bytes ++ [b]) = crcStep (crc8 bytes) b := by
  simp [crc8]

/-! ### Decoding -/

/-- A word that matches a row is decoded by the first such row once its arguments are there. -/
theorem decode_of_find {w : Word} {rest : List Word} {r : Row}
    (h : opcodeTable.find? (rowMatches w) = some r) (hl : r.args ≤ rest.length) :
    decode (w :: rest) = .ok (r.build w (rest.getD 0 0) (rest.getD 1 0), rest.drop r.args) := by
  simp [decode, h, Nat.not_lt.mpr hl]

/-- A word that matches no row is rejected by name (R105, R108). -/
theorem decode_noRow {w : Word} {rest : List Word} :
    decode (w :: rest) = .error (.noRow w) ↔ opcodeTable.find? (rowMatches w) = none := by
  cases h : opcodeTable.find? (rowMatches w) with
  | none => simp [decode, h]
  | some r =>
    simp only [decode, h]
    split <;> simp

/-! ### Filters -/

@[simp] theorem applyFilter_out (n : Nat) (f : Biquad) (x : F32) : (applyFilter n f x).out = biquadOut n f x := rfl
@[simp] theorem applyFilter_inp (n : Nat) (f : Biquad) (x : F32) : (applyFilter n f x).inp = x := rfl
@[simp] theorem applyFilter_ready (n : Nat) (f : Biquad) (x : F32) : (applyFilter n f x).ready = f.ready := rfl
@[simp] theorem applyFilter_s1 (n : Nat) (f : Biquad) (x : F32) :
    (applyFilter n f x).s1 = biquadS1 n f x (biquadOut n f x) := rfl
@[simp] theorem applyFilter_s2 (n : Nat) (f : Biquad) (x : F32) :
    (applyFilter n f x).s2 = biquadS2 n f x (biquadOut n f x) := rfl

end Sys2Proof.Machine
end

