-- ==== Sys2Proof/Laws/PerInstr.lean ====
section
/-! SUPPORT. Facts about every instruction as syntax, one lemma per constructor. -/

/-- The words of a command are as many as its row takes (R107). -/
def Sys2Proof.Laws.EncodeLength.Statement (i : Sys2Proof.Instr) : Prop :=
  (Sys2Proof.encode i).length = i.wordCount

namespace Sys2Proof.Laws.EncodeLength

theorem kissArm (m : Byte) : Statement (.kissArm m) := rfl
theorem kissRx (b : Byte) : Statement (.kissRx b) := rfl
theorem kissDecode : Statement .kissDecode := rfl
theorem kissAge (m : Byte) : Statement (.kissAge m) := rfl
theorem kissRead (m f : Byte) : Statement (.kissRead m f) := rfl
theorem kissTakeDirty : Statement .kissTakeDirty := rfl
theorem kissStat : Statement .kissStat := rfl
theorem hw4Byte (b : Byte) : Statement (.hw4Byte b) := rfl
theorem hw4Read (f : Byte) : Statement (.hw4Read f) := rfl
theorem hw4Stat : Statement .hw4Stat := rfl
theorem cmnCrcErr : Statement .cmnCrcErr := rfl
theorem cmnErr : Statement .cmnErr := rfl
theorem filtInit (m : Byte) (c t : Word) : Statement (.filtInit m c t) := rfl
theorem filtApply (m : Byte) (x : F32) : Statement (.filtApply m x) := rfl
theorem filtRead (m f : Byte) : Statement (.filtRead m f) := rfl

end Sys2Proof.Laws.EncodeLength
end

