-- ==== Sys2Proof/Tests/Slice0.lean ====
section
/-! SUPPORT. Small tests, their expected values from spec/ (the rule or vector is named), and one witness
for the hypotheses of every statement that has any. -/
namespace Sys2Proof.Tests
open Sys2Proof Sys2Proof.Machine

/-- The state just after reset under a protocol, a command having arrived on a port. -/
def start (q : Proto) (p : Port) : State :=
  { State.resetWith { Params.default with proto := q } with port := p }

/-- What a test looks at of an outcome. -/
def seen {α : Type} (r : Result) (f : State → α) : Option α :=
  match r with
  | .next t => some (f t)
  | .fault _ => none
  | .refused _ => none

/-- Whether the command answers a next state with the response `(a, v)` alone, as `State.Responds` says. -/
def answers (i : Instr) (s : State) (a : Ack) (v : Word) : Option Bool :=
  seen (exec i s) fun t => decide (s.Responds t s.port a v)

/-! ## WellFormed: an ill-formed term for each check (R109) -/

theorem test_motor_limit : Instr.wellFormed Params.default (.kissArm 4) = false ∧
    Instr.wellFormed Params.default (.kissArm 3) = true ∧
    Instr.wellFormed Params.default (.kissAge 4) = false ∧
    Instr.wellFormed Params.default (.kissRead 4 0) = false ∧
    Instr.wellFormed Params.default (.filtInit 4 100 1000) = false ∧
    Instr.wellFormed Params.default (.filtApply 4 0) = false ∧
    Instr.wellFormed Params.default (.filtRead 4 0) = false := by decide

theorem test_selector_limit : Instr.wellFormed Params.default (.kissRead 0 6) = false ∧
    Instr.wellFormed Params.default (.hw4Read 8) = false ∧
    Instr.wellFormed Params.default (.filtRead 0 9) = false ∧
    Instr.wellFormed Params.default (.filtRead 0 8) = true := by decide

/-- V-F6 to V-F9. -/
theorem test_filter_arguments : Instr.wellFormed Params.default (.filtInit 0 500 1000) = false ∧
    Instr.wellFormed Params.default (.filtInit 0 499 1000) = true ∧
    Instr.wellFormed Params.default (.filtInit 0 0 1000) = false ∧
    Instr.wellFormed Params.default (.filtInit 0 100 0) = false := by decide

/-- R6, R8, R9. -/
theorem test_configuration_limits : Params.Valid Params.default ∧
    ¬ Params.Valid { Params.default with motorCount := 0 } ∧
    ¬ Params.Valid { Params.default with motorCount := 5 } ∧
    ¬ Params.Valid { Params.default with maxMotors := 256 } ∧
    ¬ Params.Valid { Params.default with ageInvalid := 0 } := by decide

/-! ## Decoding: one word for every constructor, written out from R101 and R106 -/

theorem test_decode_kiss :
    decodeTableWord 32 0x11020000 = some (.kissArm 2) ∧
    decodeTableWord 32 0x1200000D = some (.kissRx 0x0D) ∧
    decodeTableWord 32 0x13000000 = some .kissDecode ∧
    decodeTableWord 32 0x14010000 = some (.kissAge 1) ∧
    decodeTableWord 32 0x15030002 = some (.kissRead 3 2) ∧
    decodeTableWord 32 0x16000000 = some .kissTakeDirty ∧
    decodeTableWord 32 0x17000000 = some .kissStat := by decide

theorem test_decode_hw4_common :
    decodeTableWord 32 0x210000D0 = some (.hw4Byte 0xD0) ∧
    decodeTableWord 32 0x22000003 = some (.hw4Read 3) ∧
    decodeTableWord 32 0x23000000 = some .hw4Stat ∧
    decodeTableWord 32 0x31000000 = some .cmnCrcErr ∧
    decodeTableWord 32 0x32000000 = some .cmnErr := by decide

/-- `FILT.INIT 2, 100, 1000`, `FILT.APPLY 1, 1000.0`, `FILT.READ 3, OUT`; a table word without its argument
words has zeros there. -/
theorem test_decode_filter :
    decodeTableWord 96 0x000003E80000006441020000 = some (.filtInit 2 100 1000) ∧
    decodeTableWord 64 0x447A000042010000 = some (.filtApply 1 0x447A0000) ∧
    decodeTableWord 32 0x43030001 = some (.filtRead 3 1) ∧
    decodeTableWord 32 0x41020000 = some (.filtInit 2 0 0) := by decide

/-- V-K20, V-K22, V-C5 to V-C8: no row matches. -/
theorem test_decode_reserved :
    decodeTableWord 32 0x13000001 = none ∧ decodeTableWord 32 0x11000001 = none ∧
    decodeTableWord 32 0x32010000 = none ∧ decodeTableWord 32 0x00000000 = none ∧
    decodeTableWord 32 0x51000000 = none ∧ decodeTableWord 32 0x18000000 = none ∧
    decodeTableWord 32 0x12000100 = none := by decide

/-- R105, R107: the reasons, by name. -/
theorem test_decode_errors :
    decode [] = .error .noWord ∧ decode [0x51000000, 1] = .error (.noRow 0x51000000) ∧
    decode [0x41000000, 100] = .error (.missingArgs "FILT.INIT") ∧
    decode [0x42000000] = .error (.missingArgs "FILT.APPLY") := by decide

theorem test_encode : encode (.kissRead 3 2) = [0x15030002] ∧
    encode (.filtInit 2 100 1000) = [0x41020000, 0x64, 0x3E8] ∧ encode (.kissRx 0x0D) = [0x1200000D] := by
  decide

/-! ## The meanings -/

/-- V-K1. -/
theorem test_kissArm : seen (exec (.kissArm 2) { start .kiss .host with kissPos := 7 })
    (fun t => (t.kissPos, t.kissMotor, t.hostOut)) = some (0, 2, [⟨.ok, 0⟩]) := by decide

/-- V-K17: `cmdError` alone changes, apart from the response. -/
theorem test_kissArm_illegal : seen (exec (.kissArm 4) (start .kiss .host)) id =
    some { start .kiss .host with cmdError := true, hostOut := [⟨.illegal, 0⟩] } := by decide

/-- V-K2. -/
theorem test_kissRx : seen (exec (.kissRx 0x0D) { start .kiss .receive with kissPos := 9 })
    (fun t => (t.kissBuf[9], t.kissPos, t.rxOut)) = some (0x0D, 10, [⟨.ok, 1⟩]) := by decide

/-- V-K3: the byte is dropped. -/
theorem test_kissRx_full : seen (exec (.kissRx 0x55) { start .kiss .receive with kissPos := 10 })
    (fun t => (t.kissBuf, t.kissPos, t.rxOut)) = some (Vector.replicate 10 0, 10, [⟨.ok, 0⟩]) := by decide

/-- The frame of W1, received whole. -/
def frameState (q : Proto) : State :=
  { start q .host with kissBuf := #v[0x0A, 0x00, 0xDC, 0x00, 0x05, 0x00, 0x0A, 0x01, 0xF4, 0x0D], kissPos := 10 }

/-- V-K5. -/
theorem test_kissDecode : seen (exec .kissDecode (frameState .kiss))
    (fun t => (t.recs[0]?, t.dirty, t.crcErrorCount, t.hostOut)) =
      some (some ⟨0, 10, 220, 5, 10, 500⟩, true, 0, [⟨.ok, 1⟩]) := by decide +kernel

/-- V-K8: bit 0 of byte 9 is flipped. -/
theorem test_kissDecode_failed :
    seen (exec .kissDecode { frameState .kiss with kissBuf := (frameState .kiss).kissBuf.set 9 0x0C })
      (fun t => (t.recs[0]?, t.crcErrorCount, t.hostOut)) =
        some (some ⟨255, 0, 0, 0, 0, 0⟩, 1, [⟨.ok, 2⟩]) := by decide +kernel

/-- V-K12, V-K13. -/
theorem test_kissAge :
    seen (exec (.kissAge 1) ((start .kiss .host).setRecord 1 ⟨254, 1, 2, 3, 4, 5⟩))
      (fun t => (t.recs[1]?, t.dirty, t.hostOut)) = some (some ⟨255, 1, 2, 3, 4, 5⟩, true, [⟨.ok, 255⟩]) ∧
    seen (exec (.kissAge 1) ((start .kiss .host).setRecord 1 ⟨255, 1, 2, 3, 4, 5⟩).clearDirty)
      (fun t => (t.recs[1]?, t.dirty, t.hostOut)) = some (some ⟨255, 1, 2, 3, 4, 5⟩, true, [⟨.ok, 255⟩]) := by
  decide

/-- R147: a negative temperature is sign-extended, selector 5 is the RPM. -/
theorem test_kissRead :
    seen (exec (.kissRead 0 1) ((start .kiss .host).setRecord 0 ⟨9, 0xFFFE, 2, 3, 4, 5⟩)) (·.hostOut) =
      some [⟨.ok, 0xFFFFFFFE⟩] ∧
    seen (exec (.kissRead 0 5) ((start .kiss .host).setRecord 0 ⟨9, 0xFFFE, 2, 3, 4, 5⟩)) (·.hostOut) =
      some [⟨.ok, 5⟩] := by decide

/-- V-K18. -/
theorem test_kissRead_illegal : seen (exec (.kissRead 0 6) (start .kiss .host))
    (fun t => (t.cmdError, t.hostOut)) = some (true, [⟨.illegal, 0⟩]) := by decide

/-- V-K15. -/
theorem test_kissTakeDirty :
    seen (runCommands [(.host, .kissTakeDirty), (.host, .kissTakeDirty)] (start .kiss .host))
      (fun t => (t.dirty, t.hostOut)) = some (false, [⟨.ok, 1⟩, ⟨.ok, 0⟩]) := by decide

/-- V-K16. -/
theorem test_kissStat : seen (exec .kissStat { start .kiss .host with kissMotor := 3, kissPos := 4 })
    (·.hostOut) = some [⟨.ok, 0x304⟩] := by decide

/-- The valid frame of R181. -/
def frameG : Vector Byte 19 :=
  #v[0x9B, 0x00, 0x01, 0x02, 0x01, 0xF4, 0x01, 0xC2, 0x00, 0x30, 0x39, 0x05, 0x00, 0x00, 0x64, 0x06, 0x40,
    0x07, 0xD0]

/-- A synchroniser one byte short of a frame. -/
def almost (buf : Vector Byte 19) : State := { start .hw4 .host with hw4Buf := buf, hw4Read := 18 }

/-- The example of R183. -/
theorem test_hw4Byte_valid : seen (exec (.hw4Byte 0xD0) (almost frameG))
    (fun t => (t.hw4Read, t.hw4Raw, t.hostOut)) =
      some (0, ⟨258, 500, 450, 12345, 1280, 100, 1600, 2000⟩, [⟨.ok, 1⟩]) := by decide

/-- V-H7, and V-H3 with V-H4: the invalid frame is counted, the signature packet starts the skip. -/
theorem test_hw4Byte_invalid :
    seen (exec (.hw4Byte 0xD0) (almost (frameG.set 8 4)))
      (fun t => (t.hw4Read, t.hw4Raw, t.crcErrorCount, t.hostOut)) = some (0, Hw4Raw.reset, 1, [⟨.ok, 2⟩]) ∧
    seen (runCommands (hw4Feed [0x9B, 0x9B, 0x9B]) (start .hw4 .host)) (fun t => (t.hw4Read, t.hw4Skip)) =
      some (0, 10) := by decide

/-- R184, and V-H13. -/
theorem test_hw4Read :
    seen (exec (.hw4Read 3) { start .hw4 .host with hw4Raw := ⟨1, 2, 3, 12345, 5, 6, 7, 8⟩ }) (·.hostOut) =
      some [⟨.ok, 12345⟩] ∧
    seen (exec (.hw4Read 8) (start .hw4 .host)) (·.hostOut) = some [⟨.illegal, 0⟩] := by decide

/-- V-H3. -/
theorem test_hw4Stat : seen (exec .hw4Stat { start .hw4 .host with hw4Skip := 11 }) (·.hostOut) =
    some [⟨.ok, 0xB00⟩] := by decide

/-- V-C2 (after the wrap) and V-C4. -/
theorem test_common :
    seen (exec .cmnCrcErr { start .none .host with crcErrorCount := 0xFFFFFFFF }.countError) (·.hostOut) =
      some [⟨.ok, 0⟩] ∧
    seen (exec .cmnErr { start .none .host with cmdError := true }) (·.hostOut) = some [⟨.ok, 1⟩] := by decide

/-- V-F7 and V-F6. The coefficients are opaque. -/
theorem test_filtInit :
    seen (exec (.filtInit 0 499 1000) (start .kiss .host))
      (fun t => ((t.filt[0]?).map fun f => (f.ready, f.s1, f.out), t.hostOut)) =
        some (some (true, 0, 0), [⟨.ok, 0⟩]) ∧
    seen (exec (.filtInit 0 500 1000) (start .kiss .host)) (·.hostOut) = some [⟨.illegal, 0⟩] := by decide

/-- Filter 0 with the reference coefficients of R211's example. -/
def filterState : State :=
  (start .kiss .host).setFilter 0
    (initFilter ⟨0x3D8A25FE, 0x3E0A25FE, 0x3D8A25FE, 0xBF924D2F, 0x3ED35ABB⟩)

/-- Steps 1 and 2 of the step response of 95_test_vectors.md 2.4. -/
theorem test_filtApply :
    seen (runCommands [(.host, .filtApply 0 0x447A0000), (.host, .filtApply 0 0x447A0000)] filterState)
      (fun t => ((t.filt[0]?).map fun f => (f.s1, f.s2, f.inp, f.out), t.hostOut)) =
        some (some (0x43F6F8DC, 0xC23FA27E, 0x447A0000, 0x438BBBA2), [⟨.ok, 0x4286E91A⟩, ⟨.ok, 0x438BBBA2⟩]) := by
  decide +kernel

/-- V-F5: not ready. -/
theorem test_filtApply_notReady : seen (exec (.filtApply 2 0x3F800000) (start .kiss .host)) (·.hostOut) =
    some [⟨.illegal, 0⟩] := by decide

/-- R214, and V-F11. -/
theorem test_filtRead :
    seen (exec (.filtRead 0 8) filterState) (·.hostOut) = some [⟨.ok, 0x3ED35ABB⟩] ∧
    seen (exec (.filtRead 0 9) filterState) (·.hostOut) = some [⟨.illegal, 0⟩] := by decide

/-! ## The arithmetic of R210: hand-checked binary32 cases -/

/-- A tie to even, a subnormal sum, an overflow, an exact zero, a subnormal product that ties to zero. -/
theorem test_float :
    fadd 0 0x4B800000 0x3F800000 = 0x4B800000 ∧ fadd 0 0x4B800001 0x3F800000 = 0x4B800002 ∧
    fadd 0 0x00000001 0x00000001 = 0x00000002 ∧ fadd 0 0x7F7FFFFF 0x7F7FFFFF = 0x7F800000 ∧
    fadd 0 0x80000000 0x00000000 = 0x00000000 ∧ fsub 0 0x3F800000 0x3F800000 = 0x00000000 ∧
    fmul 0 0x00000001 0x3F000000 = 0x00000000 ∧ fmul 0 0x80000003 0x3F000000 = 0x80000002 ∧
    fmul 0 0xC0000000 0x40400000 = 0xC0C00000 := by decide +kernel

/-! ## Steps and ports -/

/-- The first instruction after reset: `KISS.ARM 2` from the host command port. -/
theorem test_withFetchWord : seen (step (State.reset.withFetchWord 32 0x11020000))
    (fun t => (t.kissMotor, t.turns, t.hostIn, t.hostOut)) = some (2, [], [], [⟨.ok, 0⟩]) := by decide

/-- `KISS.RX` is issued on the receive port; a word of no row is Illegal and is consumed alone (R107). -/
theorem test_step_ports :
    seen (step (State.reset.withFetchWord 32 0x12000055)) (fun t => (t.kissBuf[0], t.rxOut)) =
      some (0x55, [⟨.ok, 1⟩]) ∧
    seen (step (State.reset.issue .host [0x51000000, 0x17000000])) (fun t => (t.hostIn, t.cmdError)) =
      some ([0x17000000], true) ∧
    seen (step (State.reset.issue .receive [0x41000000, 100, 1000, 0x12000001])) (fun t => (t.rxIn, t.rxOut)) =
      some ([0x12000001], [⟨.illegal, 0⟩]) := by decide

/-- R121: a field name is its selector; R122: the pseudo-instructions' lengths. -/
theorem test_assembly :
    assemble ⟨true, "KISS.RX", [.num 10]⟩ = some (.receive, .kissRx 10) ∧
    assemble ⟨false, "KISS.READ", [.num 3, .name "VOLT"]⟩ = some (.host, .kissRead 3 2) ∧
    assemble ⟨false, "KISS.ARM", [.num 256]⟩ = none ∧
    assemble ⟨false, "FILT.APPLY", [.num 0, .decimal false 10000 1]⟩ = some (.host, .filtApply 0 0x447A0000) ∧
    decimalBits true 1 1 = 0xBDCCCCCD ∧
    (kissReadAll 1)[5]? = some (.host, .kissRead 1 5) ∧
    (filtInitAll Params.default 100 1000).length = 4 := by decide +kernel

/-! ## Witnesses: for every statement with hypotheses, a state and operands that meet them together, for
each of its clauses, at the boundary of its range -/

theorem witness_DecodedCommandIsItsEncoding :
    decode [0x42010000, 7, 0x17000000] = .ok (.filtApply 1 7, [0x17000000]) := by decide

theorem witness_OpcodeRowsDoNotOverlap :
    ∃ r ∈ opcodeTable, rowMatches 0x15030002 r = true ∧ r.mnemonic = "KISS.READ" :=
  ⟨⟨"KISS.READ", 0x15000000, 0xFF00FF00, 0, fun w _ _ => .kissRead (idxField w) (data8Field w)⟩,
    List.mem_append_left _ (List.mem_append_left _ (List.mem_append_left _
      (.tail _ (.tail _ (.tail _ (.tail _ (.head _))))))), by decide, rfl⟩

/-- Each way of R108 for a word to match no row, and the step that takes one on either port. -/
theorem witness_ReservedEncodingsAreIllegal :
    decode [0x18000000] = .error (.noRow 0x18000000) ∧ decode [0x11000100] = .error (.noRow 0x11000100) ∧
    decode [0x12010000] = .error (.noRow 0x12010000) ∧ decode [0x41000001, 1, 1] = .error (.noRow 0x41000001) ∧
    State.reset.cfg.Valid ∧
    (State.reset.issue .receive [0x00000000, 5]).turns = [.receive] ∧
    (State.reset.issue .receive [0x00000000, 5]).input .receive = [0x00000000, 5] ∧
    decode [0x00000000, 5] = .error (.noRow 0x00000000) := by decide

/-- A command of each length, and a step that takes an Illegal one. -/
theorem witness_OpcodeTellsTheCommandLength :
    decode [0x41000000, 1, 2, 9] = .ok (.filtInit 0 1 2, [9]) ∧
    decode [0x42000000, 1, 9] = .ok (.filtApply 0 1, [9]) ∧ decode [0x43000000, 9] = .ok (.filtRead 0 0, [9]) ∧
    (State.reset.issue .receive [0x42000000, 1, 9]).turns = [.receive] ∧
    decode ((State.reset.issue .receive [0x42000000, 1, 9]).input .receive) = .ok (.filtApply 0 1, [9]) ∧
    (seen (step (State.reset.issue .receive [0x42000000, 1, 9])) (·.rxIn)).isSome = true ∧
    decode ((State.reset.issue .host [0x18000000, 9]).input .host) = .error (.noRow 0x18000000) ∧
    (seen (step (State.reset.issue .host [0x18000000, 9])) (·.hostIn)).isSome = true := by decide

theorem witness_StepRunsTheDecodedCommand :
    State.reset.cfg.Valid ∧ (State.reset.issue .host [0x11030000]).turns = .host :: [] ∧
    decode ((State.reset.issue .host [0x11030000]).input .host) = .ok (.kissArm 3, []) := by decide

theorem witness_IdleStepOnlyUsesTheTurn :
    (State.reset.cfg.Valid ∧ State.reset.turns = []) ∧
    (State.reset.issue .host [0x41000000, 1]).turns = .host :: [] ∧
    decode ((State.reset.issue .host [0x41000000, 1]).input .host) = .error (.missingArgs "FILT.INIT") ∧
    (State.reset.issue .receive []).turns = .receive :: [] ∧
    decode ((State.reset.issue .receive []).input .receive) = .error .noWord := by decide

theorem witness_StepNeverStops : State.reset.cfg.Valid ∧
    ¬ (State.resetWith { Params.default with motorCount := 0 }).cfg.Valid := by decide

/-- An Illegal command of a port, with a command behind it. -/
theorem witness_IllegalCommandChangesOnlyTheFlag :
    State.reset.cfg.Valid ∧ (State.reset.issue .host [0x11040000, 0x17000000]).turns = .host :: [] ∧
    decode ((State.reset.issue .host [0x11040000, 0x17000000]).input .host) =
      .ok (.kissArm 4, [0x17000000]) ∧
    seen (step (State.reset.issue .host [0x11040000, 0x17000000])) (·.hostOut) = some [⟨.illegal, 0⟩] := by decide

/-- Every condition of R252 met, and each of the four broken alone. -/
theorem witness_IllegalExactlyWhenACheckFails :
    (State.reset.cfg.Valid ∧ (State.reset.issue .host [0x51000000, 5]).turns = [.host] ∧
      (State.reset.issue .host [0x51000000, 5]).input .host = [0x51000000, 5] ∧
      decode [0x51000000, 5] = .error (.noRow 0x51000000)) ∧
    ((start .kiss .host).port = (Instr.kissRead 3 5).port ∧ (start .kiss .host).cfg.proto = .kiss ∧
      (Instr.kissRead 3 5).wellFormed (start .kiss .host).cfg = true) ∧
    (filterState.port = (Instr.filtApply 0 0).port ∧ (Instr.filtApply 0 0).wellFormed filterState.cfg = true ∧
      (filterState.filter 0).ready = true) ∧
    (start .kiss .receive).port ≠ (Instr.kissRead 3 5).port ∧
    (Instr.hw4Stat).neededProto = some .hw4 ∧ (start .kiss .host).cfg.proto ≠ .hw4 ∧
    (Instr.kissRead 3 6).wellFormed (start .kiss .host).cfg = false ∧
    ((start .kiss .host).filter 3).ready = false := by decide

/-- A step of a run in which the flag is set. -/
theorem witness_CommandErrorIsSticky :
    answers (.kissArm 4) (start .kiss .host) .illegal 0 = some true ∧
    answers (.kissArm 3) (start .kiss .host) .ok 0 = some true ∧
    (∃ t, Reaches ({ State.reset with cmdError := true }.issue .host [0x17000000]) t ∧
      ({ State.reset with cmdError := true }.issue .host [0x17000000]).cmdError = true ∧ t.hostIn = []) :=
  ⟨by decide, by decide, ⟨_, .step _ _ _ (.refl _) rfl, rfl, rfl⟩⟩

/-- A failed decode, a failed HW4 frame, and a command that does not count. -/
theorem witness_ErrorCounterCountsFailures :
    answers .kissDecode { frameState .kiss with kissBuf := Vector.replicate 10 1 } .ok 2 = some true ∧
    answers (.hw4Byte 0xD0) (almost (frameG.set 8 4)) .ok 2 = some true ∧
    answers .kissStat (start .kiss .host) .ok 0 = some true := by decide +kernel

theorem witness_DirtyFlagFollowsItsWriters :
    answers .kissDecode (frameState .kiss) .ok 1 = some true ∧
    answers (.kissAge 3) (start .kiss .host) .ok 255 = some true ∧
    answers .kissTakeDirty (start .kiss .host) .ok 1 = some true ∧
    answers .kissStat (start .kiss .host) .ok 0 = some true := by decide +kernel

/-- A command that meets every clause's premise, one listed as the writer of each item, and one answered OK
and one Illegal for `cmdError`. -/
theorem witness_OnlyListedCommandsWrite :
    (∃ t, exec .cmnErr (start .kiss .host) = .next t) ∧
    (∀ names ∈ [["KISS.RX"], ["KISS.ARM", "KISS.RX"], ["KISS.ARM"], ["KISS.DECODE", "KISS.AGE"], ["KISS.DECODE"],
        ["KISS.DECODE", "KISS.AGE", "KISS.TAKEDIRTY"], ["HW4.BYTE"], ["KISS.DECODE", "HW4.BYTE"],
        ["FILT.INIT", "FILT.APPLY"]], Instr.cmnErr.mnemonic ∉ names) ∧
    answers .cmnErr (start .kiss .host) .ok 0 = some true ∧
    seen (exec (.kissArm 2) (start .kiss .host)) (·.kissMotor) = some 2 ∧
    seen (exec (.kissRx 7) (start .kiss .receive)) (fun t => (t.kissBuf[0], t.kissPos)) = some (7, 1) ∧
    seen (exec (.hw4Byte 0x9B) (start .hw4 .host)) (·.hw4Read) = some 1 ∧
    seen (exec (.kissArm 4) (start .kiss .host)) (·.cmdError) = some true :=
  ⟨⟨_, rfl⟩, by decide, by decide, by decide, by decide, by decide, by decide⟩

theorem witness_ReadsChangeNothing :
    answers (.kissRead 3 5) (start .kiss .host) .ok 0 = some true ∧
    answers (.hw4Read 7) (start .hw4 .host) .ok 0 = some true ∧
    answers (.filtRead 3 8) (start .none .host) .ok 0 = some true ∧
    (Instr.filtRead 3 8).mnemonic ∈
      ["KISS.READ", "KISS.STAT", "HW4.READ", "HW4.STAT", "FILT.READ", "CMN.CRCERR", "CMN.ERR"] := by decide

theorem witness_OnlyKrxCapturesAndOnlyHostResets :
    (∃ t, exec (.kissArm 1) { start .kiss .host with kissPos := 9 } = .next t ∧ t.kissPos = 0) ∧
    ∃ t, exec (.kissRx 1) { start .kiss .receive with kissPos := 9 } = .next t ∧ t.kissPos = 10 :=
  ⟨⟨_, rfl, by decide⟩, ⟨_, rfl, by decide⟩⟩

theorem witness_CompleteFrameIsStable :
    (frameState .kiss).kissPos = 10 ∧
    (∀ c ∈ [(Port.receive, Instr.kissRx 7), (Port.host, Instr.kissDecode)], c.2.mnemonic ≠ "KISS.ARM") ∧
    (seen (runCommands [(.receive, .kissRx 7), (.host, .kissDecode)] (frameState .kiss))
      (·.rxOut)) = some [⟨.ok, 0⟩] := by decide +kernel

theorem witness_InactiveProtocolStateIsFrozen :
    ((start .none .host).cfg.proto ≠ .kiss ∧ (start .none .host).cfg.proto ≠ .hw4) ∧
    ∃ t, Reaches ((start .none .host).issue .host [0x11000000]) t ∧ t.cmdError = true :=
  ⟨by decide, ⟨_, .step _ _ _ (.refl _) rfl, by decide⟩⟩

theorem witness_ConfigurationNeverChanges :
    ∃ t, Reaches (State.reset.issue .host [0x11030000]) t ∧ t.kissMotor = 3 :=
  ⟨_, .step _ _ _ (.refl _) rfl, by decide⟩

theorem witness_StepKeepsInvariants :
    (State.reset.issue .host [0x11030000]).Inv ∧
    (∃ t, step (State.reset.issue .host [0x11030000]) = .next t ∧ t.kissMotor = 3) ∧ Params.default.Valid ∧
    ∃ t, Reaches { State.resetWith Params.default with turns := [.host], hostIn := [0x11030000], rxIn := [] } t ∧
      t.kissMotor = 3 :=
  ⟨by decide, ⟨_, rfl, by decide⟩, by decide, ⟨_, .step _ _ _ (.refl _) rfl, by decide⟩⟩

theorem witness_ResetMeetsInvariants : Params.default.Valid ∧
    ({ proto := .hw4, maxMotors := 1, motorCount := 1, ageInvalid := 1 } : Params).Valid := by decide

/-- Each check of `KISS.ARM`, the motor index at its limit. -/
theorem witness_KissArmStartsAFrame :
    ((start .kiss .host).port = .host ∧ (start .kiss .host).cfg.proto = .kiss ∧
      (3 : Byte).toNat < (start .kiss .host).cfg.motorCount) ∧
    ¬ (4 : Byte).toNat < (start .kiss .host).cfg.motorCount ∧ (start .kiss .receive).port ≠ .host ∧
    (start .hw4 .host).cfg.proto ≠ .kiss := by decide

theorem witness_KissRxCapturesOrDrops :
    ((start .kiss .receive).port = .receive ∧ (start .kiss .receive).cfg.proto = .kiss ∧
      ({ start .kiss .receive with kissPos := 9 }).kissPos.toNat < 10) ∧
    10 ≤ ({ start .kiss .receive with kissPos := 10 }).kissPos.toNat ∧
    ¬ (start .kiss .host).port = .receive := by decide

theorem witness_KissDecodeHasThreeResults :
    ((start .kiss .host).port = .host ∧ (start .kiss .host).cfg.proto = .kiss ∧
      ({ start .kiss .host with kissPos := 9 }).kissPos.toNat < 10) ∧
    ((frameState .kiss).port = .host ∧ (frameState .kiss).cfg.proto = .kiss ∧
      10 ≤ (frameState .kiss).kissPos.toNat ∧
      crc8 ((frameState .kiss).kissBuf.toList.take 9) = (frameState .kiss).kissBuf[9]) ∧
    crc8 (((frameState .kiss).kissBuf.set 3 1).toList.take 9) ≠ ((frameState .kiss).kissBuf.set 3 1)[9] ∧
    ¬ (start .hw4 .host).cfg.proto = .kiss := by decide +kernel

theorem witness_KissAgeBumpsAndSaturates :
    (((start .kiss .host).setRecord 3 ⟨254, 0, 0, 0, 0, 0⟩).recs[(3 : Byte).toNat]? = some ⟨254, 0, 0, 0, 0, 0⟩ ∧
      (254 : Byte).toNat < (start .kiss .host).cfg.ageInvalid.toNat) ∧
    ((start .kiss .host).recs[(3 : Byte).toNat]? = some ⟨255, 0, 0, 0, 0, 0⟩ ∧
      (start .kiss .host).cfg.ageInvalid.toNat ≤ (255 : Byte).toNat) ∧
    ((start .kiss .host).port = .host ∧ (start .kiss .host).cfg.proto = .kiss ∧
      (3 : Byte).toNat < (start .kiss .host).cfg.motorCount) ∧
    ¬ (4 : Byte).toNat < (start .kiss .host).cfg.motorCount := by decide

theorem witness_KissReadAnswersTheField :
    ((start .kiss .host).recs[(3 : Byte).toNat]? = some ⟨255, 0, 0, 0, 0, 0⟩ ∧ (start .kiss .host).port = .host ∧
      (start .kiss .host).cfg.proto = .kiss ∧ (3 : Byte).toNat < (start .kiss .host).cfg.motorCount) ∧
    ([255, 0, 0, 0, 0, 7] : List Word)[(5 : Byte).toNat]? = some 7 ∧ ¬ (6 : Byte).toNat ≤ 5 := by decide

theorem witness_KissTakeDirtyReadsAndClears :
    ((start .kiss .host).port = .host ∧ (start .kiss .host).cfg.proto = .kiss) ∧
    ¬ ((start .kiss .receive).port = .host ∧ (start .kiss .receive).cfg.proto = .kiss) := by decide

theorem witness_KissStatShowsPositionAndMotor :
    ((start .kiss .host).port = .host ∧ (start .kiss .host).cfg.proto = .kiss) ∧
    ¬ ((start .none .host).port = .host ∧ (start .none .host).cfg.proto = .kiss) := by decide

theorem witness_CrcIsLinear : ([0x0A, 0x00] : List Byte).length = ([0xFF, 0x80] : List Byte).length := by decide

theorem witness_SingleBitErrorsAreDetected :
    (frameState .kiss).kissPos = 10 ∧ answers .kissDecode (frameState .kiss) .ok 1 = some true := by
  decide +kernel

/-- A first decode of each of the three results. -/
theorem witness_RepeatedDecodeRepeatsItsEffect :
    answers .kissDecode { frameState .kiss with kissPos := 9 } .ok 0 = some true ∧
    answers .kissDecode (frameState .kiss) .ok 1 = some true ∧
    answers .kissDecode { frameState .kiss with kissBuf := Vector.replicate 10 1 } .ok 2 = some true := by
  decide +kernel

theorem witness_KissFrameRoundTrip :
    (start .kiss .host).Inv ∧ (start .kiss .host).cfg.proto = .kiss ∧
    (3 : Byte).toNat < (start .kiss .host).cfg.motorCount := by decide

theorem witness_AllZeroFrameIsAccepted :
    ({ start .kiss .host with kissPos := 10 }).port = .host ∧
    ({ start .kiss .host with kissPos := 10 }).cfg.proto = .kiss ∧
    ({ start .kiss .host with kissPos := 10 }).kissPos = 10 ∧
    ({ start .kiss .host with kissPos := 10 }).kissBuf = Vector.replicate 10 0 := by decide

theorem witness_DataAgeSaturates :
    ((start .kiss .host).setRecord 3 ⟨254, 0, 0, 0, 0, 0⟩).Inv ∧ (start .kiss .host).cfg.proto = .kiss ∧
    (3 : Byte).toNat < (start .kiss .host).cfg.motorCount ∧
    ((start .kiss .host).setRecord 3 ⟨254, 0, 0, 0, 0, 0⟩).recs[(3 : Byte).toNat]? =
      some ⟨254, 0, 0, 0, 0, 0⟩ := by decide

/-- Every case of R180 at its boundary, and the two results of a completed frame. -/
theorem witness_Hw4ByteFollowsTheSynchroniser :
    ((start .hw4 .host).port = .host ∧ (start .hw4 .host).cfg.proto = .hw4) ∧
    0 < ({ start .hw4 .host with hw4Skip := 1 }).hw4Skip.toNat ∧
    ((start .hw4 .host).hw4Skip = 0 ∧ (start .hw4 .host).hw4Read = 0) ∧
    ({ start .hw4 .host with hw4Read := 1 }).hw4Read = 1 ∧
    (({ start .hw4 .host with hw4Read := 17 }).hw4Read.toNat < 18 ∧
      ({ start .hw4 .host with hw4Read := 17 }).hw4Read ≠ 0 ∧
      ¬ (({ start .hw4 .host with hw4Read := 17 }).hw4Read = 1 ∧ (0x9B : Byte) = 0x9B)) ∧
    ((almost frameG).hw4Skip = 0 ∧ (almost frameG).hw4Read = 18) ∧
    (((almost frameG).hw4Buf.set 18 0xD0)[4].toNat < 4 ∧ ((almost frameG).hw4Buf.set 18 0xD0)[17].toNat < 0x0F) ∧
    ¬ ((almost (frameG.set 17 0x0F)).hw4Buf.set 18 0xD0)[17].toNat < 0x0F ∧
    ¬ (start .kiss .host).cfg.proto = .hw4 := by decide

theorem witness_Hw4ReadAnswersTheField :
    ((start .hw4 .host).port = .host ∧ (start .hw4 .host).cfg.proto = .hw4) ∧
    ([0, 0, 0, 0, 0, 0, 0, 9] : List Nat)[(7 : Byte).toNat]? = some 9 ∧ ¬ (8 : Byte).toNat ≤ 7 := by decide

theorem witness_Hw4StatShowsFillAndSkip :
    ((start .hw4 .host).port = .host ∧ (start .hw4 .host).cfg.proto = .hw4) ∧
    ¬ ((start .kiss .host).port = .host ∧ (start .kiss .host).cfg.proto = .hw4) := by decide

theorem witness_LatchedFieldsAreBounded :
    answers (.hw4Byte 0xD0) (almost frameG) .ok 1 = some true := by decide +kernel

/-- Each of the four ways back to idle. -/
theorem witness_SynchroniserReturnsToIdle :
    (start .hw4 .host).cfg.proto = .hw4 ∧
    (({ start .hw4 .host with hw4Skip := 11 }).Hw4InRange ∧
      (List.replicate 11 (0 : Byte)).length = ({ start .hw4 .host with hw4Skip := 11 }).hw4Skip.toNat) ∧
    (({ almost frameG with hw4Read := 1 }).Hw4InRange ∧
      (List.replicate 12 (0x9B : Byte)).length = 12 ∧ (List.replicate 12 (0x9B : Byte)).head? = some 0x9B ∧
      (List.replicate 18 (0 : Byte)).length = 18 ∧ (List.replicate 18 (0 : Byte)).head? ≠ some 0x9B) ∧
    ((almost frameG).Hw4InRange ∧ 2 ≤ (almost frameG).hw4Read.toNat ∧
      (List.replicate 1 (0 : Byte)).length = 19 - (almost frameG).hw4Read.toNat) := by decide

theorem witness_AlignedStreamReportsEveryFrame :
    (start .hw4 .host).cfg.proto = .hw4 ∧ (start .hw4 .host).hw4Read = 0 ∧ (start .hw4 .host).hw4Skip = 0 ∧
    ∀ f ∈ [frameG, frameG.set 8 4], f[0] = 0x9B ∧ f[1] ≠ 0x9B := by
  refine ⟨by decide, by decide, by decide, fun f hf => ?_⟩
  rcases List.mem_cons.mp hf with rfl | h
  · decide
  · rw [List.mem_singleton.mp h]
    decide

theorem witness_SignaturePacketIsSkipped :
    (start .hw4 .host).cfg.proto = .hw4 ∧ (start .hw4 .host).hw4Read = 0 ∧ (start .hw4 .host).hw4Skip = 0 ∧
    (List.replicate 11 (0x9B : Byte)).length = 11 ∧ (frameG.toList.drop 1).length = 18 ∧
    (frameG.toList.drop 1).head? ≠ some 0x9B := by decide

theorem witness_FrameWithMarkerInByteOneIsLost :
    (start .hw4 .host).cfg.proto = .hw4 ∧ (start .hw4 .host).hw4Read = 0 ∧ (start .hw4 .host).hw4Skip = 0 ∧
    (frameG.set 1 0x9B)[0] = 0x9B ∧ (frameG.set 1 0x9B)[1] = 0x9B := by decide

theorem witness_CmnCrcErrAnswersTheCounter :
    (start .none .host).port = .host ∧ (start .none .receive).port ≠ .host := by decide

theorem witness_CmnErrAnswersTheFlag :
    (start .kiss .host).port = .host ∧ (start .kiss .receive).port ≠ .host := by decide

/-- The argument checks of `FILT.INIT` at the Nyquist limit. -/
theorem witness_FiltInitConfiguresTheFilter :
    ((start .none .host).port = .host ∧ (3 : Byte).toNat < (start .none .host).cfg.motorCount ∧
      (499 : Word) ≠ 0 ∧ (1000 : Word) ≠ 0 ∧ 2 * (499 : Word).toNat * (1000 : Word).toNat < 1000000) ∧
    ¬ 2 * (500 : Word).toNat * (1000 : Word).toNat < 1000000 ∧
    ¬ (4 : Byte).toNat < (start .none .host).cfg.motorCount := by decide

theorem witness_FiltApplyRunsTheBiquad :
    (filterState.filt[(0 : Byte).toNat]? = some (filterState.filter 0) ∧ filterState.port = .host ∧
      (0 : Byte).toNat < filterState.cfg.motorCount ∧ (filterState.filter 0).ready = true) ∧
    (filterState.filt[(3 : Byte).toNat]? = some Biquad.reset ∧ Biquad.reset.ready = false) := by decide

theorem witness_FiltReadAnswersTheField :
    (filterState.filt[(3 : Byte).toNat]? = some Biquad.reset ∧ filterState.port = .host ∧
      (3 : Byte).toNat < filterState.cfg.motorCount) ∧
    ([0, 0, 0, 0, 0, 0, 0, 0, 9] : List Word)[(8 : Byte).toNat]? = some 9 ∧ ¬ (9 : Byte).toNat ≤ 8 := by decide

/-- Finite numbers with a sum, a difference and a zero result, and the largest finite number. -/
theorem witness_AdditionIsCorrectlyRounded :
    (f32IsFinite 0x7F7FFFFF = true ∧ f32IsFinite 0x80000000 = true ∧ f32IsFinite 0x00000001 = true) ∧
    f32Units 0x7F7FFFFF + f32Units 0x00000001 ≠ 0 ∧ f32Units 0x80000000 + f32Units 0x80000000 = 0 ∧
    f32Units 0x00000001 - f32Units 0x00000001 = 0 := by decide +kernel

theorem witness_MultiplicationIsCorrectlyRounded :
    f32IsFinite 0x7F7FFFFF = true ∧ f32Units 0x7F7FFFFF * f32Units 0x00000001 ≠ 0 ∧
    f32Units 0x7F7FFFFF * f32Units 0x80000000 = 0 := by decide +kernel

/-- A NaN, two infinities, a zero and a quiet NaN with a payload. -/
theorem witness_NaNsAreDrawnAndInfinitiesFollowIeee :
    f32IsQuietNaN 0xFFC00001 = true ∧ f32IsNaN 0x7F800001 = true ∧ f32IsInf 0x7F800000 = true ∧
    f32IsInf 0xFF800000 = true ∧ f32Sign 0x7F800000 ≠ f32Sign 0xFF800000 ∧ f32IsFinite 0x00000000 = true ∧
    f32IsZero 0x80000000 = true ∧ ¬ f32IsNaN 0x7F800000 = true ∧ ¬ f32IsZero 0xFF800000 = true := by
  decide +kernel

/-- The commands after the NaN are of both agents: a sample, a `FILT.INIT` of another motor, an Illegal one. -/
theorem witness_NaNPoisonsTheFilter :
    filterState.filt[(0 : Byte).toNat]? = some (filterState.filter 0) ∧
    (0 : Byte).toNat < filterState.cfg.motorCount ∧ (filterState.filter 0).ready = true ∧
    f32IsNaN 0x7FC00000 = true ∧
    ∀ c ∈ [(Port.host, Instr.filtApply 0 0x447A0000), (.receive, .kissRx 7), (.host, .filtInit 1 100 1000),
        (.receive, .cmnErr)], ∀ cutoff looptime, c.2 ≠ .filtInit 0 cutoff looptime := by
  refine ⟨by decide, by decide, by decide, by decide, fun c hc => ?_⟩
  simp only [List.mem_cons, List.not_mem_nil, or_false] at hc
  rcases hc with rfl | rfl | rfl | rfl <;> simp

theorem witness_MotorsDoNotInteract :
    ((seen (exec (.filtApply 0 0x447A0000) filterState) (·.draws)) = some 9 ∧ (3 : Nat) ≠ (0 : Byte).toNat) ∧
    (seen (exec (.filtApply 0 0x447A0000) { filterState with kissPos := 7 }) (·.kissPos)) = some 7 ∧
    filterState.port = ({ filterState with kissPos := 7 }).port ∧
    filterState.cfg = ({ filterState with kissPos := 7 }).cfg ∧
    filterState.draws = ({ filterState with kissPos := 7 }).draws ∧
    filterState.filt[(0 : Byte).toNat]? = some (filterState.filter 0) ∧
    ({ filterState with kissPos := 7 }).filt[(0 : Byte).toNat]? = some (filterState.filter 0) :=
  ⟨by decide, by decide, rfl, rfl, rfl, by decide, by decide⟩

end Sys2Proof.Tests
end

section
/-! PROOF. What a legal command does, said once for all fifteen commands, and from it the reset values
(R53), the dirty flag (R38) and the invariants (R52). -/
namespace Sys2Proof.Machine

/-! ### The effect of a legal command -/

/-- `LegalEffect s i u v`: once the port and protocol checks of R252 are passed, the rule of command `i`
is legal in `s`, answers `(OK, v)` and leaves the state `u`, to which only the response is still to be added. -/
inductive LegalEffect (s : State) : Instr → State → Word → Prop where
  /-- R142. -/
  | kissArm (m : Byte) (hm : m.toNat < s.cfg.motorCount) :
      LegalEffect s (.kissArm m) { s with kissPos := 0, kissMotor := m } 0
  /-- R143, the byte is captured. -/
  | kissRxCapture (b : Byte) (hp : s.kissPos < kissFrameLen) :
      LegalEffect s (.kissRx b)
        { s with kissBuf := s.kissBuf.setIfInBounds s.kissPos.toNat b, kissPos := s.kissPos + 1 } 1
  /-- R143, the byte is dropped. -/
  | kissRxDrop (b : Byte) (hp : ¬ s.kissPos < kissFrameLen) : LegalEffect s (.kissRx b) s 0
  /-- R144, the frame is incomplete. -/
  | kissDecodeIncomplete (hp : s.kissPos < kissFrameLen) : LegalEffect s .kissDecode s 0
  /-- R144, a complete frame whose CRC agrees. -/
  | kissDecodeComplete (hp : ¬ s.kissPos < kissFrameLen) (hc : kissFrameOk s.kissBuf = true) :
      LegalEffect s .kissDecode (s.setRecord s.kissMotor (kissFields s.kissBuf)).setDirty 1
  /-- R144, a complete frame whose CRC does not agree. -/
  | kissDecodeBadCrc (hp : ¬ s.kissPos < kissFrameLen) (hc : kissFrameOk s.kissBuf ≠ true) :
      LegalEffect s .kissDecode s.countError 2
  /-- R146. -/
  | kissAge (m : Byte) (hm : m.toNat < s.cfg.motorCount) :
      LegalEffect s (.kissAge m)
        (s.setRecord m { s.record m with age := bumpAge s.cfg.ageInvalid (s.record m).age }).setDirty
        ((bumpAge s.cfg.ageInvalid (s.record m).age).setWidth 32)
  /-- R147. -/
  | kissRead (m f : Byte) (v : Word) (hm : m.toNat < s.cfg.motorCount) (hf : kissField (s.record m) f = some v) :
      LegalEffect s (.kissRead m f) s v
  /-- R148. -/
  | kissTakeDirty : LegalEffect s .kissTakeDirty s.clearDirty (bitWord s.dirty)
  /-- R149. -/
  | kissStat : LegalEffect s .kissStat s (statWord s.kissMotor s.kissPos)
  /-- R183, no frame is completed by this byte. -/
  | hw4BytePending (b : Byte) (hc : (hw4Sync b s).2 ≠ true) : LegalEffect s (.hw4Byte b) (hw4Sync b s).1 0
  /-- R183, a completed frame that passes the sanity check. -/
  | hw4ByteValid (b : Byte) (hc : (hw4Sync b s).2 = true) (hv : hw4Valid (hw4Sync b s).1.hw4Buf = true) :
      LegalEffect s (.hw4Byte b) { (hw4Sync b s).1 with hw4Raw := hw4Fields (hw4Sync b s).1.hw4Buf } 1
  /-- R183, a completed frame that fails the sanity check. -/
  | hw4ByteInvalid (b : Byte) (hc : (hw4Sync b s).2 = true) (hv : hw4Valid (hw4Sync b s).1.hw4Buf ≠ true) :
      LegalEffect s (.hw4Byte b) (hw4Sync b s).1.countError 2
  /-- R184. -/
  | hw4Read (f : Byte) (v : Word) (hf : hw4Field s.hw4Raw f = some v) : LegalEffect s (.hw4Read f) s v
  /-- R185. -/
  | hw4Stat : LegalEffect s .hw4Stat s (statWord s.hw4Skip s.hw4Read)
  /-- R240. -/
  | cmnCrcErr : LegalEffect s .cmnCrcErr s s.crcErrorCount
  /-- R241. -/
  | cmnErr : LegalEffect s .cmnErr s (bitWord s.cmdError)
  /-- R212. -/
  | filtInit (m : Byte) (cutoffHz looptimeUs : Word) (hm : m.toNat < s.cfg.motorCount)
      (ha : filtArgsOk cutoffHz looptimeUs = true) :
      LegalEffect s (.filtInit m cutoffHz looptimeUs)
        (s.setFilter m (initFilter (Config.bqCoeff cutoffHz looptimeUs))) 0
  /-- R213. -/
  | filtApply (m : Byte) (x : F32) (hm : m.toNat < s.cfg.motorCount) (hr : (s.filter m).ready = true) :
      LegalEffect s (.filtApply m x) (s.setFilter m (applyFilter s.draws (s.filter m) x)).useDraws
        (biquadOut s.draws (s.filter m) x)
  /-- R214. -/
  | filtRead (m f : Byte) (v : Word) (hm : m.toNat < s.cfg.motorCount) (hf : filtField (s.filter m) f = some v) :
      LegalEffect s (.filtRead m f) s v

/-- The command arrived on its row's port, under the protocol it needs (R252, 2 and 3). -/
abbrev PassesGate (i : Instr) (s : State) : Prop :=
  s.port = i.port ∧ ∀ x, i.neededProto = some x → s.cfg.proto = x

/-- What a command's own rule can end in: the Illegal outcome, or a legal effect with its response. -/
abbrev BodyOutcome (i : Instr) (s t : State) : Prop :=
  raiseIllegal s = .next t ∨ ∃ u v, LegalEffect s i u v ∧ u.respond .ok v = t

theorem validMotor_iff {c : Params} {m : Byte} : validMotor c m = true ↔ m.toNat < c.motorCount := by
  simp [validMotor]

/-- A check that lets a command answer was passed, or the command is Illegal. -/
theorem guardedBy_next {ok : Bool} {s t : State} {body : Result} (h : guardedBy ok s body = .next t) :
    raiseIllegal s = .next t ∨ (ok = true ∧ body = .next t) := by
  rcases guardedBy_cases ok s body with ⟨hok, he⟩ | ⟨_, he⟩
  · exact .inr ⟨hok, he ▸ h⟩
  · exact .inl (he ▸ h)

/-- A command behind one check has the outcome of the check's body. -/
theorem bodyOutcome_of_guardedBy {i : Instr} {ok : Bool} {s t : State} {body : Result}
    (h : guardedBy ok s body = .next t) (hb : ok = true → body = .next t → BodyOutcome i s t) :
    BodyOutcome i s t := by
  rcases guardedBy_next h with hill | ⟨hok, hbody⟩
  · exact .inl hill
  · exact hb hok hbody

/-- A command behind a motor check has the outcome of the check's body. -/
theorem bodyOutcome_of_validMotor {i : Instr} {m : Byte} {s t : State} {body : Result}
    (h : guardedBy (validMotor s.cfg m) s body = .next t)
    (hb : m.toNat < s.cfg.motorCount → body = .next t → BodyOutcome i s t) : BodyOutcome i s t :=
  bodyOutcome_of_guardedBy h fun hm => hb (validMotor_iff.mp hm)

/-- An answered legal effect is an outcome. -/
theorem bodyOutcome_of_answer {i : Instr} {s t u : State} {v : Word} (hl : LegalEffect s i u v)
    (h : answer u v = .next t) : BodyOutcome i s t :=
  .inr ⟨u, v, hl, answer_next.mp h⟩

/-- The two argument checks of `FILT.INIT` together are `filtArgsOk` (R212). -/
theorem filtArgsOk_of_checks {c t : Word} (h0 : (!(c == 0 || t == 0)) = true)
    (h1 : (!decide (2 * c.toNat * t.toNat ≥ 1000000)) = true) : filtArgsOk c t = true := by
  simp_all [filtArgsOk]

/-- A command behind the port and protocol checks of its row is Illegal, or passed them and has the outcome
of its own rule (R252). -/
theorem outcome_of_gated {i : Instr} {s t : State} {body : Result}
    (h : gated i.port i.neededProto s body = .next t) (hb : body = .next t → BodyOutcome i s t) :
    raiseIllegal s = .next t ∨
      (PassesGate i s ∧ ∃ u v, LegalEffect s i u v ∧ u.respond .ok v = t) := by
  rcases gated_cases i.port i.neededProto s body with ⟨hpass, he⟩ | ⟨_, he⟩
  · exact (hb (he ▸ h)).imp_right fun hl => ⟨hpass, hl⟩
  · exact .inl (he ▸ h)

/-- What a command can do: the Illegal outcome of R251, or its legal effect and one OK response. -/
theorem exec_cases {i : Instr} {s t : State} (h : exec i s = .next t) :
    raiseIllegal s = .next t ∨
      (PassesGate i s ∧ ∃ u v, LegalEffect s i u v ∧ u.respond .ok v = t) := by
  cases i with
  | kissArm m =>
    exact outcome_of_gated h fun hb => bodyOutcome_of_validMotor hb fun hm => bodyOutcome_of_answer (.kissArm m hm)
  | kissRx b =>
    refine outcome_of_gated h fun hb => ?_
    split at hb
    case isTrue hp => exact bodyOutcome_of_answer (.kissRxCapture b hp) hb
    case isFalse hp => exact bodyOutcome_of_answer (.kissRxDrop b hp) hb
  | kissDecode =>
    refine outcome_of_gated h fun hb => ?_
    split at hb
    case isTrue hp => exact bodyOutcome_of_answer (.kissDecodeIncomplete hp) hb
    case isFalse hp =>
      split at hb
      case isTrue hc => exact bodyOutcome_of_answer (.kissDecodeComplete hp hc) hb
      case isFalse hc => exact bodyOutcome_of_answer (.kissDecodeBadCrc hp hc) hb
  | kissAge m =>
    exact outcome_of_gated h fun hb => bodyOutcome_of_validMotor hb fun hm => bodyOutcome_of_answer (.kissAge m hm)
  | kissRead m f =>
    refine outcome_of_gated h fun hb => bodyOutcome_of_validMotor hb fun hm hread => ?_
    split at hread
    case h_1 v hf => exact bodyOutcome_of_answer (.kissRead m f v hm hf) hread
    case h_2 => exact .inl hread
  | kissTakeDirty => exact outcome_of_gated h (bodyOutcome_of_answer .kissTakeDirty)
  | kissStat => exact outcome_of_gated h (bodyOutcome_of_answer .kissStat)
  | hw4Byte b =>
    refine outcome_of_gated h fun hb => ?_
    split at hb
    case isTrue hc =>
      dsimp only at hb
      split at hb
      case isTrue hv => exact bodyOutcome_of_answer (.hw4ByteValid b hc hv) hb
      case isFalse hv => exact bodyOutcome_of_answer (.hw4ByteInvalid b hc hv) hb
    case isFalse hc => exact bodyOutcome_of_answer (.hw4BytePending b hc) hb
  | hw4Read f =>
    refine outcome_of_gated h fun hread => ?_
    split at hread
    case h_1 v hf => exact bodyOutcome_of_answer (.hw4Read f v hf) hread
    case h_2 => exact .inl hread
  | hw4Stat => exact outcome_of_gated h (bodyOutcome_of_answer .hw4Stat)
  | cmnCrcErr => exact outcome_of_gated h (bodyOutcome_of_answer .cmnCrcErr)
  | cmnErr => exact outcome_of_gated h (bodyOutcome_of_answer .cmnErr)
  | filtInit m c lt =>
    exact outcome_of_gated h fun hb => bodyOutcome_of_validMotor hb fun hm hz =>
      bodyOutcome_of_guardedBy hz fun hnonzero hn => bodyOutcome_of_guardedBy hn fun hnyquist =>
        bodyOutcome_of_answer (.filtInit m c lt hm (filtArgsOk_of_checks hnonzero hnyquist))
  | filtApply m x =>
    refine outcome_of_gated h fun hb => bodyOutcome_of_guardedBy hb fun hok => ?_
    obtain ⟨hm, hr⟩ := Bool.and_eq_true_iff.mp hok
    exact bodyOutcome_of_answer (.filtApply m x (validMotor_iff.mp hm) hr)
  | filtRead m f =>
    refine outcome_of_gated h fun hb => bodyOutcome_of_validMotor hb fun hm hread => ?_
    split at hread
    case h_1 v hf => exact bodyOutcome_of_answer (.filtRead m f v hm hf) hread
    case h_2 => exact .inl hread

/-! ### What the synchroniser and a legal effect leave unchanged -/

/-- The synchroniser writes its buffer and its two counters alone (R180). -/
theorem hw4Sync_frame (b : Byte) (s : State) :
    (hw4Sync b s).1 = { s with
      hw4Buf := (hw4Sync b s).1.hw4Buf, hw4Read := (hw4Sync b s).1.hw4Read, hw4Skip := (hw4Sync b s).1.hw4Skip } := by
  rcases hw4Sync_cases b s with ⟨_, h⟩ | ⟨_, _, _, h⟩ | ⟨_, _, _, h⟩ | ⟨_, _, _, h⟩ | ⟨_, _, _, _, h⟩ |
      ⟨_, _, _, _, h⟩ <;> rw [h]

@[simp] theorem hw4Sync_cfg (b : Byte) (s : State) : (hw4Sync b s).1.cfg = s.cfg := by rw [hw4Sync_frame]
@[simp] theorem hw4Sync_kissBuf (b : Byte) (s : State) : (hw4Sync b s).1.kissBuf = s.kissBuf := by rw [hw4Sync_frame]
@[simp] theorem hw4Sync_kissPos (b : Byte) (s : State) : (hw4Sync b s).1.kissPos = s.kissPos := by rw [hw4Sync_frame]
@[simp] theorem hw4Sync_kissMotor (b : Byte) (s : State) : (hw4Sync b s).1.kissMotor = s.kissMotor := by rw [hw4Sync_frame]
@[simp] theorem hw4Sync_recs (b : Byte) (s : State) : (hw4Sync b s).1.recs = s.recs := by rw [hw4Sync_frame]
@[simp] theorem hw4Sync_dirty (b : Byte) (s : State) : (hw4Sync b s).1.dirty = s.dirty := by rw [hw4Sync_frame]
@[simp] theorem hw4Sync_hw4Raw (b : Byte) (s : State) : (hw4Sync b s).1.hw4Raw = s.hw4Raw := by rw [hw4Sync_frame]
@[simp] theorem hw4Sync_crcErrorCount (b : Byte) (s : State) : (hw4Sync b s).1.crcErrorCount = s.crcErrorCount := by rw [hw4Sync_frame]
@[simp] theorem hw4Sync_cmdError (b : Byte) (s : State) : (hw4Sync b s).1.cmdError = s.cmdError := by rw [hw4Sync_frame]
@[simp] theorem hw4Sync_filt (b : Byte) (s : State) : (hw4Sync b s).1.filt = s.filt := by rw [hw4Sync_frame]
@[simp] theorem hw4Sync_port (b : Byte) (s : State) : (hw4Sync b s).1.port = s.port := by rw [hw4Sync_frame]
@[simp] theorem hw4Sync_turns (b : Byte) (s : State) : (hw4Sync b s).1.turns = s.turns := by rw [hw4Sync_frame]
@[simp] theorem hw4Sync_hostIn (b : Byte) (s : State) : (hw4Sync b s).1.hostIn = s.hostIn := by rw [hw4Sync_frame]
@[simp] theorem hw4Sync_rxIn (b : Byte) (s : State) : (hw4Sync b s).1.rxIn = s.rxIn := by rw [hw4Sync_frame]
@[simp] theorem hw4Sync_hostOut (b : Byte) (s : State) : (hw4Sync b s).1.hostOut = s.hostOut := by rw [hw4Sync_frame]
@[simp] theorem hw4Sync_rxOut (b : Byte) (s : State) : (hw4Sync b s).1.rxOut = s.rxOut := by rw [hw4Sync_frame]
@[simp] theorem hw4Sync_draws (b : Byte) (s : State) : (hw4Sync b s).1.draws = s.draws := by rw [hw4Sync_frame]

/-- A legal effect gives no response by itself and keeps the port the response goes to. -/
theorem LegalEffect.keeps_responses {s u : State} {i : Instr} {v : Word} (h : LegalEffect s i u v) :
    u.port = s.port ∧ ∀ q, u.output q = s.output q := by
  suffices u.port = s.port ∧ u.hostOut = s.hostOut ∧ u.rxOut = s.rxOut by
    obtain ⟨hp, hh, hr⟩ := this
    exact ⟨hp, fun q => by cases q <;> assumption⟩
  cases h <;> simp

/-- A command with a legal effect gives exactly one response, `(OK, v)` to its issuer (R104). -/
theorem LegalEffect.responds {s u : State} {i : Instr} {v : Word} (h : LegalEffect s i u v) :
    s.Responds (u.respond .ok v) s.port .ok v :=
  responds_answer s u v h.keeps_responses.1 h.keeps_responses.2

/-- The only OK response of a legal effect is its own. -/
theorem LegalEffect.responds_ok_iff {s u : State} {i : Instr} {v w : Word} (h : LegalEffect s i u v) :
    s.Responds (u.respond .ok v) s.port .ok w ↔ w = v :=
  ⟨fun hw => (responds_ack_unique hw h.responds).2, fun hw => hw ▸ h.responds⟩

/-- The state after the Illegal outcome: `cmdError` set, one response `(ILLEGAL, 0)`, nothing else (R251). -/
theorem raiseIllegal_next {s t : State} (h : raiseIllegal s = .next t) :
    State.SameBlock { s with cmdError := true } t ∧ s.Responds t s.port .illegal 0 := by
  obtain ⟨_, ht, hsame, hresp⟩ := raiseIllegal_outcome s
  cases ht.symm.trans h
  exact ⟨hsame, hresp⟩

/-- An answer `ILLEGAL` is no answer `OK` (R104). -/
theorem not_responds_ok {s t : State} {p : Port} {v w : Word} (h : s.Responds t p .illegal w) :
    ¬ s.Responds t p .ok v :=
  fun hok => nomatch (responds_ack_unique hok h).1

/-! ### Reset values -/

/-- Settles O24: each item of `State.resetWith` is the value of the reset table, the two banks slot by slot. -/
theorem resetValues : Obligations.ResetValues := by
  intro c
  refine ⟨fun j _ => ?kissBuf, rfl, rfl, fun m hm => ?recs, rfl, fun j _ => ?hw4Buf, rfl, rfl, rfl, rfl, rfl,
    fun m hm => ?filt⟩
  case kissBuf => simp [State.resetWith]
  case recs => simp [State.resetWith, KissRecord.reset, hm]
  case hw4Buf => simp [State.resetWith]
  case filt => simp [State.resetWith, Biquad.reset, hm]

/-! ### The dirty flag -/

/-- The results that set the dirty flag: a complete decode, and every legal `KISS.AGE` (R38). -/
def SetsDirty (i : Instr) (v : Word) : Prop := (i = .kissDecode ∧ v = 1) ∨ i.mnemonic = "KISS.AGE"

/-- The dirty flag after a legal effect: set by its setters, cleared by `KISS.TAKEDIRTY`, else kept (R38). -/
theorem LegalEffect.dirty_cases {s u : State} {i : Instr} {v : Word} (h : LegalEffect s i u v) :
    (SetsDirty i v ∧ i ≠ .kissTakeDirty ∧ u.dirty = true) ∨
      (¬ SetsDirty i v ∧ i = .kissTakeDirty ∧ u.dirty = false) ∨
      (¬ SetsDirty i v ∧ i ≠ .kissTakeDirty ∧ u.dirty = s.dirty) := by
  cases h <;> simp [SetsDirty, Instr.mnemonic]

/-- Settles O15: an Illegal command answers no OK and keeps the flag; a legal one answers its own value alone,
and which of the three it does to the flag is `LegalEffect.dirty_cases`. -/
theorem dirtyFlagFollowsItsWriters : Obligations.DirtyFlagFollowsItsWriters := by
  intro i s t h
  rcases exec_cases h with hill | ⟨_, u, v, hl, rfl⟩
  · obtain ⟨⟨_, ⟨_, _, _, _, hdirty⟩, _⟩, hresp⟩ := raiseIllegal_next hill
    have hnoOk (v : Word) : ¬ s.Responds t s.port .ok v := not_responds_ok hresp
    simp [hnoOk, hdirty]
  · have hset : (i = .kissDecode ∧ (1 : Word) = v) ∨ i.mnemonic = "KISS.AGE" ↔ SetsDirty i v := by
      rw [SetsDirty, eq_comm (a := v)]
    simp only [hl.responds_ok_iff, exists_eq, and_true, respond_dirty, ← or_assoc, hset]
    rcases hl.dirty_cases with ⟨hs, hn, hd⟩ | ⟨hs, hn, hd⟩ | ⟨hs, hn, hd⟩
    · simp [hs, hn, hd]
    · exact ⟨fun hset => absurd hset hs, fun _ => hd, fun hnone => absurd (.inr hn) hnone⟩
    · simp [hs, hn, hd]

/-! ### The invariants of R52 -/

/-- The invariants speak of the configuration, the KISS and HW4 units and the filter bank alone. -/
theorem State.Inv.of_same {s t : State} (h : s.Inv) (hcfg : t.cfg = s.cfg) (hkiss : s.SameKiss t)
    (hhw4 : s.SameHw4 t) (hfilt : t.filt = s.filt) : t.Inv := by
  obtain ⟨_, hpos, hmotor, hrecs, _⟩ := hkiss
  obtain ⟨hbuf, hread, hskip, _⟩ := hhw4
  simpa only [State.Inv, State.Sized, State.KissInRange, State.Hw4InRange, State.AgesBounded,
    State.UnreadyFiltersClear, hcfg, hpos, hmotor, hrecs, hbuf, hread, hskip, hfilt] using h

theorem State.Inv.respond {s : State} (h : s.Inv) (a : Ack) (v : Word) : (s.respond a v).Inv := by
  obtain ⟨⟨hcfg, _⟩, hkiss, hhw4, ⟨hfilt, _⟩, _⟩ := sameBlock_respond s a v
  exact h.of_same hcfg hkiss hhw4 hfilt

theorem State.Inv.taken {s : State} (h : s.Inv) (p : Port) (ts : List Port) (ws : List Word) :
    (s.taken p ts ws).Inv :=
  h.of_same (by simp) (by simp [State.SameKiss]) (by simp [State.SameHw4]) (by simp)

/-- The Illegal outcome keeps the invariants: it writes `cmdError` alone (R251). -/
theorem State.Inv.raiseIllegal {s t : State} (h : s.Inv) (ht : raiseIllegal s = .next t) : t.Inv := by
  obtain ⟨⟨⟨hcfg, _⟩, hkiss, hhw4, ⟨hfilt, _⟩, _⟩, _⟩ := raiseIllegal_next ht
  exact h.of_same hcfg hkiss hhw4 hfilt

/-- Writing a record whose age is within the ceiling keeps the invariants. -/
theorem State.Inv.setRecord {s : State} (h : s.Inv) (m : Byte) {r : KissRecord}
    (hr : r.age.toNat ≤ s.cfg.ageInvalid.toNat) : (s.setRecord m r).Inv := by
  obtain ⟨hv, ⟨hrecs, hfilts⟩, hk, hh, hages, hclear⟩ := h
  refine ⟨hv, ⟨by simpa using hrecs, hfilts⟩, hk, hh, fun q hq => ?_, hclear⟩
  rcases List.mem_or_eq_of_mem_set hq with hmem | rfl
  · exact hages q hmem
  · exact hr

/-- Writing a filter that is ready keeps the invariants. -/
theorem State.Inv.setFilter {s : State} (h : s.Inv) (m : Byte) {f : Biquad} (hf : f.ready = true) :
    (s.setFilter m f).Inv := by
  obtain ⟨hv, ⟨hrecs, hfilts⟩, hk, hh, hages, hclear⟩ := h
  refine ⟨hv, ⟨hrecs, by simpa using hfilts⟩, hk, hh, hages, fun g hg hready => ?_⟩
  rcases List.mem_or_eq_of_mem_set hg with hmem | rfl
  · exact hclear g hmem hready
  · simp [hf] at hready

/-- Every record read is within the age ceiling, also where there is no slot (R52, 5). -/
theorem record_age_le {s : State} (h : s.AgesBounded) (m : Byte) :
    (s.record m).age.toNat ≤ s.cfg.ageInvalid.toNat := by
  rw [State.record, List.getD_eq_getElem?_getD]
  cases hr : s.recs[m.toNat]? with
  | none => exact le_rfl
  | some r => exact h r (List.mem_of_getElem? hr)

/-- A captured byte moves the position to at most 10 (R143). -/
theorem kissPos_succ_le {p : Byte} (h : p < kissFrameLen) : (p + 1).toNat ≤ 10 := by
  simp only [kissFrameLen] at h
  bv_omega

/-- The synchroniser keeps its invariants (R180; R52, 2 to 4). -/
theorem hw4Sync_keeps_range {s : State} (h : s.Hw4InRange) (b : Byte) : (hw4Sync b s).1.Hw4InRange := by
  obtain ⟨⟨hread, hskip⟩, hsync, hexcl⟩ := h
  rcases hw4Sync_cases b s with ⟨hk, e⟩ | ⟨hk, hr, hb, e⟩ | ⟨hk, hr, hb, e⟩ | ⟨hk, hr, hb, e⟩ |
      ⟨hk, hr, hb, hl, e⟩ | ⟨hk, hr, hb, hl, e⟩ <;> rw [e]
  -- The cases are the steps of R180: skip, sync byte, byte before a sync, signature, last byte, further byte.
  · have hread0 := hexcl hk
    exact ⟨⟨hread, by simp only; bv_omega⟩, hsync, fun _ => hread0⟩
  · exact ⟨⟨by simp, hskip⟩, fun _ => by simp [hb, hw4SyncMarker], fun h => absurd h hk⟩
  · exact ⟨⟨hread, hskip⟩, hsync, hexcl⟩
  · exact ⟨⟨by simp, by simp [hw4SigSkip]⟩, fun h => by simp at h, fun _ => rfl⟩
  · exact ⟨⟨by simp, hskip⟩, fun h => by simp at h, fun _ => rfl⟩
  · simp only [hw4FrameLen] at hl
    have hpos : s.hw4Read.toNat ≠ 0 := fun h0 => hr (BitVec.eq_of_toNat_eq h0)
    have hbuf : s.hw4Buf[0] = 0x9B := hsync (by bv_omega)
    refine ⟨⟨by simp only; bv_omega, hskip⟩, fun _ => ?_, fun h => absurd h hk⟩
    simpa [Vector.getElem_setIfInBounds, hpos] using hbuf

/-- The synchroniser keeps all the invariants: outside its own unit it writes nothing. -/
theorem State.Inv.hw4Sync {s : State} (h : s.Inv) (b : Byte) : (hw4Sync b s).1.Inv := by
  obtain ⟨hv, hsized, hk, hh, hages, hclear⟩ := h
  rw [hw4Sync_frame]
  exact ⟨hv, hsized, hk, hw4Sync_keeps_range hh b, hages, hclear⟩

/-- A legal effect keeps the invariants. -/
theorem LegalEffect.keeps_inv {s u : State} {i : Instr} {v : Word} (h : LegalEffect s i u v) (hs : s.Inv) : u.Inv := by
  have ⟨hv, hsized, ⟨_, hmotor⟩, hh, hages, hclear⟩ := hs
  cases h with
  | kissArm m hm => exact ⟨hv, hsized, ⟨by simp, hm⟩, hh, hages, hclear⟩
  | kissRxCapture b hp => exact ⟨hv, hsized, ⟨kissPos_succ_le hp, hmotor⟩, hh, hages, hclear⟩
  | kissDecodeComplete hp hc => exact hs.setRecord s.kissMotor (by simp [kissFields])
  | kissAge m hm =>
    refine hs.setRecord m ?_
    rw [bumpAge_toNat _ _ (record_age_le hages m)]
    exact min_le_right _ _
  | hw4BytePending b _ => exact hs.hw4Sync b
  | hw4ByteValid b _ _ => exact hs.hw4Sync b
  | hw4ByteInvalid b _ _ => exact hs.hw4Sync b
  | filtInit m c t hm _ => exact hs.setFilter m rfl
  | filtApply m x hm hr => exact hs.setFilter m hr
  | kissRxDrop | kissDecodeIncomplete | kissDecodeBadCrc | kissRead | kissTakeDirty | kissStat | hw4Read
  | hw4Stat | cmnCrcErr | cmnErr | filtRead => exact hs

/-- Every command keeps the invariants. -/
theorem exec_keeps_inv {i : Instr} {s t : State} (hs : s.Inv) (h : exec i s = .next t) : t.Inv := by
  rcases exec_cases h with hill | ⟨_, u, v, hl, rfl⟩
  · exact hs.raiseIllegal hill
  · exact (hl.keeps_inv hs).respond .ok v

/-- Every step keeps the invariants (R52). -/
theorem step_keeps_inv {s t : State} (hs : s.Inv) (h : step s = .next t) : t.Inv := by
  obtain ⟨_, ⟨ts, rfl⟩ | ⟨p, ts, rest, hill⟩ | ⟨i, p, ts, rest, _, hi⟩⟩ := step_cases h
  · exact hs
  · exact (hs.taken p ts rest).raiseIllegal hill
  · exact exec_keeps_inv (hs.taken p ts rest) hi

/-- What holds of a state and is kept by every step holds of every state reached from it. -/
theorem Reaches.induct_on {P : State → Prop} {s t : State} (h : Reaches s t) (hs : P s)
    (hstep : ∀ a b, P a → Machine.step a = .next b → P b) : P t := by
  induction h with
  | refl => exact hs
  | step t u _ he ih => exact hstep t u ih he

/-- The reset state of every admissible configuration meets the invariants (R52, R53). -/
theorem resetWith_inv {c : Params} (hc : c.Valid) : (State.resetWith c).Inv := by
  refine ⟨hc, ⟨by simp [State.resetWith], by simp [State.resetWith]⟩, ⟨by simp [State.resetWith], hc.2.1.1⟩,
    by simp [State.Hw4InRange, State.resetWith], fun r hr => ?_, fun f hf _ => ?_⟩
  · rw [List.eq_of_mem_replicate hr]
    exact le_rfl
  · exact List.eq_of_mem_replicate hf

/-- Settles O22: reset meets the invariants whatever stands on the ports, and every step keeps them. -/
theorem stepKeepsInvariants : Obligations.StepKeepsInvariants :=
  ⟨fun _ _ => step_keeps_inv, fun _ _ _ _ _ hc hreach => hreach.induct_on (resetWith_inv hc) fun _ _ => step_keeps_inv⟩

end Sys2Proof.Machine
end

section
/-! PROOF. What a list of commands keeps, and from it the stability of a complete KISS frame (R83). -/
namespace Sys2Proof.Machine

/-! ### What a list of commands keeps -/

/-- A list of commands that ends in a state ran its first command, and then the rest. -/
theorem runCommands_cons_cases {p : Port} {i : Instr} {rest : List (Port × Instr)} {s t : State}
    (h : runCommands ((p, i) :: rest) s = .next t) :
    ∃ u, exec i { s with port := p } = .next u ∧ runCommands rest u = .next t := by
  simp only [runCommands] at h
  split at h
  case h_1 u he => exact ⟨u, he, h⟩
  case h_2 | h_3 => cases h

/-- What holds of a state, whichever port is served, and is kept by every listed command, holds after the list. -/
theorem runCommands_induct_on {P : State → Prop} {cmds : List (Port × Instr)} {s t : State}
    (h : runCommands cmds s = .next t) (hs : P s) (hport : ∀ a p, P a → P { a with port := p })
    (hexec : ∀ c ∈ cmds, ∀ a b, P a → exec c.2 a = .next b → P b) : P t := by
  induction cmds generalizing s with
  | nil =>
    cases h
    exact hs
  | cons c rest ih =>
    obtain ⟨p, i⟩ := c
    obtain ⟨u, hu, hrest⟩ := runCommands_cons_cases h
    have hkept : P u := hexec (p, i) List.mem_cons_self _ u (hport s p hs) hu
    exact ih hrest hkept fun c hc => hexec c (List.mem_cons_of_mem _ hc)

/-! ### A complete KISS frame -/

/-- A complete frame leaves no room for a byte (R34, R143). -/
theorem not_kissPos_lt_of_complete {s : State} (hpos : s.kissPos = 10) : ¬ s.kissPos < kissFrameLen :=
  hpos ▸ by decide

/-- A legal effect on a complete frame keeps the buffer and the position, unless it is that of `KISS.ARM`:
the only other writer, `KISS.RX`, drops its byte (R83, R143). -/
theorem LegalEffect.keeps_complete_frame {s u : State} {i : Instr} {v : Word} (h : LegalEffect s i u v)
    (hpos : s.kissPos = 10) (harm : i.mnemonic ≠ "KISS.ARM") : u.kissBuf = s.kissBuf ∧ u.kissPos = s.kissPos := by
  cases h with
  | kissArm m hm => exact absurd rfl harm
  | kissRxCapture b hp => exact absurd hp (not_kissPos_lt_of_complete hpos)
  | hw4BytePending b _ | hw4ByteValid b _ _ | hw4ByteInvalid b _ _ => simp
  | kissRxDrop | kissDecodeIncomplete | kissDecodeComplete | kissDecodeBadCrc | kissAge | kissRead | kissTakeDirty
  | kissStat | hw4Read | hw4Stat | cmnCrcErr | cmnErr | filtInit | filtApply | filtRead => exact ⟨rfl, rfl⟩

/-- No command but `KISS.ARM` changes the buffer or the position of a complete frame, Illegal or not (R83, R251). -/
theorem exec_keeps_complete_frame {i : Instr} {s t : State} (hpos : s.kissPos = 10)
    (harm : i.mnemonic ≠ "KISS.ARM") (h : exec i s = .next t) :
    t.kissBuf = s.kissBuf ∧ t.kissPos = s.kissPos := by
  rcases exec_cases h with hill | ⟨_, u, v, hl, rfl⟩
  · obtain ⟨⟨_, ⟨hbuf, hsame, _⟩, _⟩, _⟩ := raiseIllegal_next hill
    exact ⟨hbuf, hsame⟩
  · simpa using hl.keeps_complete_frame hpos harm

/-- Settles O19, by induction on the list: each command that is no arm keeps the ten bytes and the position. -/
theorem completeFrameIsStable : Obligations.CompleteFrameIsStable := by
  intro cmds s t hpos harm hrun
  refine runCommands_induct_on (P := fun a => a.kissBuf = s.kissBuf ∧ a.kissPos = 10) hrun ⟨rfl, hpos⟩
    (fun _ _ ha => ha) fun c hc a b ha hb => ?_
  obtain ⟨hbuf, hfull⟩ := ha
  obtain ⟨hbuf', hpos'⟩ := exec_keeps_complete_frame hfull (harm c hc) hb
  exact ⟨hbuf'.trans hbuf, hpos'.trans hfull⟩

end Sys2Proof.Machine
end

section
/-! PROOF. The opcode table read field by field, and from it the reserved encodings (R108), the lengths of
the commands (R107) and the words each command is decoded from (R105, R106). -/
namespace Sys2Proof.Machine

/-! ### The fields of a command word -/

/-- The opcode of a command word, bits 31:24, as a number (R101, R102). -/
abbrev opcodeOf (w : Word) : Nat := (w.extractLsb' 24 8).toNat

/-- A word is its opcode, IDX, RSVD and DATA8 (R101). -/
theorem eq_append_fields (w : Word) :
    w = w.extractLsb' 24 8 ++ w.extractLsb' 16 8 ++ w.extractLsb' 8 8 ++ w.extractLsb' 0 8 := by
  have top : w.extractLsb' 24 8 ++ w.extractLsb' 16 8 = w.extractLsb' 16 16 :=
    BitVec.extractLsb'_append_extractLsb'_eq_extractLsb' rfl
  have upper : w.extractLsb' 16 16 ++ w.extractLsb' 8 8 = w.extractLsb' 8 24 :=
    BitVec.extractLsb'_append_extractLsb'_eq_extractLsb' rfl
  have whole : w.extractLsb' 8 24 ++ w.extractLsb' 0 8 = w.extractLsb' 0 32 :=
    BitVec.extractLsb'_append_extractLsb'_eq_extractLsb' rfl
  rw [top, upper, whole, BitVec.extractLsb'_eq_self]

/-- Two words are equal when they agree field by field (R101). -/
theorem eq_iff_fields (x y : Word) :
    x = y ↔ x.extractLsb' 24 8 = y.extractLsb' 24 8 ∧ x.extractLsb' 16 8 = y.extractLsb' 16 8 ∧
      x.extractLsb' 8 8 = y.extractLsb' 8 8 ∧ x.extractLsb' 0 8 = y.extractLsb' 0 8 := by
  refine ⟨fun h => by simp [h], fun ⟨hop, hidx, hrsvd, hdata⟩ => ?_⟩
  rw [eq_append_fields x, eq_append_fields y, hop, hidx, hrsvd, hdata]

/-! ### The rows of the opcode table -/

/-- The opcodes of the table (R106). -/
abbrev tableOpcodes : List Nat :=
  [0x11, 0x12, 0x13, 0x14, 0x15, 0x16, 0x17, 0x21, 0x22, 0x23, 0x31, 0x32, 0x41, 0x42, 0x43]

/-- The opcodes whose row leaves IDX free: the commands with a motor index (R106). -/
abbrev idxOpcodes : List Nat := [0x11, 0x14, 0x15, 0x41, 0x42, 0x43]

/-- The opcodes whose row leaves DATA8 free: the commands with a byte or a selector (R106). -/
abbrev data8Opcodes : List Nat := [0x12, 0x15, 0x21, 0x22, 0x43]

/-- The bits that a row fixes in a field: none where the field is an operand, else all eight (R105). -/
def fieldMask (operand : Prop) [Decidable operand] : Byte := if operand then 0 else 0xFF

/-- A field under its mask is 0 exactly when it is an operand or is 0. -/
theorem and_fieldMask_eq_zero (x : Byte) (operand : Prop) [Decidable operand] :
    x &&& fieldMask operand = 0 ↔ (¬ operand → x = 0) := by
  have hall : (0xFF : Byte) = BitVec.allOnes 8 := rfl
  by_cases h : operand
  · simp [fieldMask, h]
  · rw [fieldMask, if_neg h, hall, BitVec.and_allOnes]
    simp [h]

theorem opcodes_of_table : opcodeTable.map (fun r => opcodeOf r.pattern) = tableOpcodes := by decide

/-- An opcode names one row (R106). -/
theorem row_eq_of_opcode {r q : Row} (hr : r ∈ opcodeTable) (hq : q ∈ opcodeTable)
    (h : opcodeOf r.pattern = opcodeOf q.pattern) : r = q :=
  List.inj_on_of_nodup_map (by rw [opcodes_of_table]; decide) hr hq h

/-- A mnemonic names one row (R106). -/
theorem row_eq_of_mnemonic {r q : Row} (hr : r ∈ opcodeTable) (hq : q ∈ opcodeTable)
    (h : r.mnemonic = q.mnemonic) : r = q :=
  List.inj_on_of_nodup_map (f := Row.mnemonic) (by decide) hr hq h

/-- A row builds commands of its own mnemonic (R106). -/
theorem mnemonic_build {r : Row} (hr : r ∈ opcodeTable) (w a0 a1 : Word) :
    (r.build w a0 a1).mnemonic = r.mnemonic := by
  revert r
  simp [opcodeTable, kissRows, hw4Rows, cmnRows, filtRows, Instr.mnemonic]

/-- What a row fixes: the opcode and RSVD whole, IDX and DATA8 to 0 unless they are operands (R105, R106). -/
theorem row_layout : ∀ r ∈ opcodeTable,
    (r.pattern.extractLsb' 16 8 = 0 ∧ r.pattern.extractLsb' 8 8 = 0 ∧ r.pattern.extractLsb' 0 8 = 0) ∧
      r.mask.extractLsb' 24 8 = BitVec.allOnes 8 ∧
      r.mask.extractLsb' 16 8 = fieldMask (opcodeOf r.pattern ∈ idxOpcodes) ∧
      r.mask.extractLsb' 8 8 = BitVec.allOnes 8 ∧
      r.mask.extractLsb' 0 8 = fieldMask (opcodeOf r.pattern ∈ data8Opcodes) := by
  decide

/-- The argument words of a row follow from its opcode (R107). -/
theorem row_length : ∀ r ∈ opcodeTable,
    r.args + 1 = if opcodeOf r.pattern = 0x41 then 3 else if opcodeOf r.pattern = 0x42 then 2 else 1 := by
  decide

/-- The row at a place of the table (R106). -/
theorem row_mem (n : Nat) (h : n < opcodeTable.length := by decide) : opcodeTable[n] ∈ opcodeTable :=
  List.getElem_mem h

/-! ### The row of a word -/

theorem rowMatches_iff {w : Word} {r : Row} : rowMatches w r = true ↔ w &&& r.mask = r.pattern := by
  simp [rowMatches]

/-- The fields of a word outside its opcode are such as its opcode allows (R101, R106, R108). -/
def FieldsAllowed (w : Word) : Prop :=
  w.extractLsb' 8 8 = 0 ∧ (opcodeOf w ∉ idxOpcodes → w.extractLsb' 16 8 = 0) ∧
    (opcodeOf w ∉ data8Opcodes → w.extractLsb' 0 8 = 0)

/-- A row matches a word when the word has its opcode and fields that the opcode allows (R105, R106). -/
theorem rowMatches_iff_fields {w : Word} {r : Row} (hr : r ∈ opcodeTable) :
    rowMatches w r = true ↔ opcodeOf w = opcodeOf r.pattern ∧ FieldsAllowed w := by
  obtain ⟨⟨hp2, hp1, hp0⟩, hm3, hm2, hm1, hm0⟩ := row_layout r hr
  have hop : w.extractLsb' 24 8 = r.pattern.extractLsb' 24 8 ↔ opcodeOf w = opcodeOf r.pattern :=
    BitVec.toNat_inj.symm
  rw [rowMatches_iff, eq_iff_fields]
  simp only [BitVec.extractLsb'_and, hp2, hp1, hp0, hm3, hm2, hm1, hm0, BitVec.and_allOnes, and_fieldMask_eq_zero, hop]
  refine and_congr_right fun h => ?_
  rw [FieldsAllowed, h]
  exact and_left_comm

/-- The row that matches a word is the row that the decoder finds (R105). -/
theorem find?_eq_some_iff_matches {w : Word} {r : Row} :
    opcodeTable.find? (rowMatches w) = some r ↔ r ∈ opcodeTable ∧ rowMatches w r = true := by
  refine ⟨fun h => ⟨List.mem_of_find?_eq_some h, List.find?_some h⟩, fun ⟨hr, hm⟩ => ?_⟩
  cases hf : opcodeTable.find? (rowMatches w) with
  | none => exact absurd hm (List.find?_eq_none.mp hf r hr)
  | some q =>
    have hq := List.mem_of_find?_eq_some hf
    have hopq := ((rowMatches_iff_fields hq).mp (List.find?_some hf)).1
    have hopr := ((rowMatches_iff_fields hr).mp hm).1
    rw [row_eq_of_opcode hq hr (hopq.symm.trans hopr)]

/-- A word matches no row unless its opcode is in the table and allows its fields (R108). -/
theorem find?_eq_none_iff_reserved {w : Word} :
    opcodeTable.find? (rowMatches w) = none ↔ ¬ (opcodeOf w ∈ tableOpcodes ∧ FieldsAllowed w) := by
  rw [List.find?_eq_none, ← opcodes_of_table]
  refine ⟨fun hnone ⟨hop, hfields⟩ => ?_, fun h r hr hm => h ?_⟩
  · obtain ⟨r, hr, he⟩ := List.mem_map.mp hop
    exact hnone r hr ((rowMatches_iff_fields hr).mpr ⟨he.symm, hfields⟩)
  · obtain ⟨he, hfields⟩ := (rowMatches_iff_fields hr).mp hm
    exact ⟨List.mem_map.mpr ⟨r, hr, he.symm⟩, hfields⟩

/-! ### What the decoder answers -/

/-- A command is decoded from the row that matches its command word, once the row's argument words are
there (R105, R107). -/
theorem decode_ok_iff {w : Word} {ws rest : List Word} {i : Instr} :
    decode (w :: ws) = .ok (i, rest) ↔
      ∃ r ∈ opcodeTable, rowMatches w r = true ∧ r.args ≤ ws.length ∧
        r.build w (ws.getD 0 0) (ws.getD 1 0) = i ∧ ws.drop r.args = rest := by
  constructor
  · intro h
    cases hf : opcodeTable.find? (rowMatches w) with
    | none => simp [decode_noRow.mpr hf] at h
    | some r =>
      obtain ⟨hr, hm⟩ := find?_eq_some_iff_matches.mp hf
      by_cases hl : r.args ≤ ws.length
      · rw [decode_of_find hf hl, Except.ok.injEq, Prod.mk.injEq] at h
        exact ⟨r, hr, hm, hl, h⟩
      · simp [decode, hf, Nat.lt_of_not_le hl] at h
  · rintro ⟨r, hr, hm, hl, rfl, rfl⟩
    exact decode_of_find (find?_eq_some_iff_matches.mpr ⟨hr, hm⟩) hl

/-- A command of a one-word row is decoded from the words that match the row and hold its operands, whatever
follows them (R105, R107). -/
theorem decode_one_word_iff {name : String} {pattern mask w : Word} {build : Word → Word → Word → Instr}
    {i : Instr} (hr : ⟨name, pattern, mask, 0, build⟩ ∈ opcodeTable) (hname : name = i.mnemonic)
    (rest : List Word) :
    decode (w :: rest) = .ok (i, rest) ↔
      w &&& mask = pattern ∧ build w (rest.getD 0 0) (rest.getD 1 0) = i := by
  rw [decode_ok_iff]
  constructor
  · rintro ⟨q, hq, hm, _, hb, _⟩
    obtain rfl : q = ⟨name, pattern, mask, 0, build⟩ :=
      row_eq_of_mnemonic hq hr (by rw [← mnemonic_build hq, hb, ← hname])
    exact ⟨rowMatches_iff.mp hm, hb⟩
  · rintro ⟨hm, hb⟩
    exact ⟨_, hr, rowMatches_iff.mpr hm, Nat.zero_le _, hb, rfl⟩

/-- A command without operands is decoded from one word alone (R106). -/
theorem decode_fixed_word_iff {name : String} {pattern w : Word} {i : Instr}
    (hr : ⟨name, pattern, 0xFFFFFFFF, 0, fun _ _ _ => i⟩ ∈ opcodeTable) (rest : List Word) :
    decode (w :: rest) = .ok (i, rest) ↔ w = pattern := by
  have hall : (0xFFFFFFFF : Word) = BitVec.allOnes 32 := rfl
  rw [decode_one_word_iff hr (mnemonic_build hr 0 0 0).symm, hall, BitVec.and_allOnes]
  exact and_iff_left rfl

/-! ### Reserved encodings -/

/-- The words of no row, field by field as R108 lists them. -/
theorem reserved_iff_fields {w : Word} :
    ¬ (opcodeOf w ∈ tableOpcodes ∧ FieldsAllowed w) ↔
      opcodeOf w ∉ tableOpcodes ∨ w.extractLsb' 8 8 ≠ 0 ∨ (opcodeOf w ∉ idxOpcodes ∧ w.extractLsb' 16 8 ≠ 0) ∨
        (opcodeOf w ∉ data8Opcodes ∧ w.extractLsb' 0 8 ≠ 0) := by
  simp only [FieldsAllowed, not_and_or, Classical.not_imp, ne_eq]

/-- The step that takes a word of no row is Illegal and consumes that word alone (R105, R107). -/
theorem step_of_noRow {s : State} {p : Port} {turns : List Port} {w : Word} {rest : List Word}
    (hv : s.cfg.Valid) (ht : s.turns = p :: turns) (hin : s.input p = w :: rest)
    (hd : decode (w :: rest) = .error (.noRow w)) : step s = raiseIllegal (s.taken p turns rest) := by
  simp [step, hv, fetch, ht, hin, hd]

/-- The step that takes a command runs it once its words are consumed (R17, R107). -/
theorem step_of_decode_ok {s : State} {p : Port} {turns : List Port} {i : Instr} {rest : List Word}
    (hv : s.cfg.Valid) (ht : s.turns = p :: turns) (hd : decode (s.input p) = .ok (i, rest)) :
    step s = exec i (s.taken p turns rest) := by
  simp [step, hv, fetch, ht, hd]

/-- Settles O4: the words that no row matches, from the layout of the rows, and the Illegal outcome of the step
that takes one. -/
theorem reservedEncodingsAreIllegal : Obligations.ReservedEncodingsAreIllegal :=
  ⟨fun _ _ => decode_noRow.trans (find?_eq_none_iff_reserved.trans reserved_iff_fields),
    fun s p turns _ rest hv ht hin hd => step_of_noRow hv ht hin hd ▸ raiseIllegal_outcome (s.taken p turns rest)⟩

/-! ### The length of a command -/

/-- A legal effect leaves the configuration, the waiting words and the turns alone (R30, R107). -/
theorem LegalEffect.samePorts {s u : State} {i : Instr} {v : Word} (h : LegalEffect s i u v) : s.SamePorts u := by
  cases h <;> simp [State.SamePorts]

/-- No command, Illegal or not, writes the configuration, the waiting words or the turns (R30, R107, R251). -/
theorem exec_samePorts {i : Instr} {s t : State} (h : exec i s = .next t) : s.SamePorts t := by
  rcases exec_cases h with hill | ⟨_, u, v, hl, rfl⟩
  · exact (raiseIllegal_next hill).1.1
  · simpa [State.SamePorts] using hl.samePorts

/-- The words waiting on a port are those of a state with the same ports. -/
theorem State.SamePorts.input {s t : State} (h : s.SamePorts t) (p : Port) : t.input p = s.input p := by
  obtain ⟨_, _, _, hhost, hrx⟩ := h
  cases p with
  | host => exact hhost
  | receive => exact hrx

/-- What keeps the ports after the words of a command are taken has consumed those words and no word of the other
port (R107). -/
theorem input_of_samePorts_taken {s t : State} {p : Port} {turns : List Port} {rest : List Word}
    (h : (s.taken p turns rest).SamePorts t) : t.input p = rest ∧ t.input (otherPort p) = s.input (otherPort p) :=
  ⟨by simp [h.input], by simp [h.input, otherPort_ne]⟩

/-- The words after a command are those after its command word and as many more as its opcode tells (R107). -/
theorem rest_of_decode_ok {w : Word} {ws rest : List Word} {i : Instr} (h : decode (w :: ws) = .ok (i, rest)) :
    rest = (w :: ws).drop (if opcodeOf w = 0x41 then 3 else if opcodeOf w = 0x42 then 2 else 1) := by
  obtain ⟨r, hr, hm, _, _, rfl⟩ := decode_ok_iff.mp h
  obtain ⟨hop, _⟩ := (rowMatches_iff_fields hr).mp hm
  rw [hop, ← row_length r hr, List.drop_succ_cons]

/-- Settles O5: the length of a command is its row's, and neither a command nor the Illegal outcome touches the
words that are left. -/
theorem opcodeTellsTheCommandLength : Obligations.OpcodeTellsTheCommandLength := by
  refine ⟨fun _ _ _ _ => rest_of_decode_ok, fun s t p turns i rest ht hd h => ?_,
    fun s t p turns _ rest ht hin hd h => ?_⟩
  · rw [step_of_decode_ok (step_cases h).1 ht hd] at h
    exact input_of_samePorts_taken (exec_samePorts h)
  · rw [step_of_noRow (step_cases h).1 ht hin hd] at h
    exact input_of_samePorts_taken (raiseIllegal_next h).1.1

end Sys2Proof.Machine
end

section
/-! PROOF. The converse of `exec_cases`: a command whose legal effect is known has it, every other is Illegal;
from it the meanings of the read and STAT commands (R147, R149, R184, R185, R214), of `KISS.DECODE` (R144) and
of `HW4.BYTE` (R183). -/
namespace Sys2Proof.Machine

/-! ### Every command answers -/

theorem guardedBy_answers {ok : Bool} {s : State} {body : Result} (h : ∃ t, body = .next t) :
    ∃ t, guardedBy ok s body = .next t := by
  rcases guardedBy_cases ok s body with ⟨_, he⟩ | ⟨_, he⟩
  · rwa [he]
  · exact ⟨_, he⟩

/-- A command whose own rule ends in a next state ends in one behind its port and protocol checks. -/
theorem gated_answers (i : Instr) {s : State} {body : Result} (h : ∃ t, body = .next t) :
    ∃ t, gated i.port i.neededProto s body = .next t :=
  guardedBy_answers (guardedBy_answers h)

/-- Every command ends in a next state (R250). -/
theorem exec_answers (i : Instr) (s : State) : ∃ t, exec i s = .next t := by
  cases i with
  | kissArm m => exact gated_answers (.kissArm m) (guardedBy_answers ⟨_, rfl⟩)
  | kissRx b =>
    refine gated_answers (.kissRx b) ?_
    split <;> exact ⟨_, rfl⟩
  | kissDecode =>
    refine gated_answers .kissDecode ?_
    split
    · exact ⟨_, rfl⟩
    · split <;> exact ⟨_, rfl⟩
  | kissAge m => exact gated_answers (.kissAge m) (guardedBy_answers ⟨_, rfl⟩)
  | kissRead m f =>
    refine gated_answers (.kissRead m f) (guardedBy_answers ?_)
    split <;> exact ⟨_, rfl⟩
  | kissTakeDirty => exact gated_answers .kissTakeDirty ⟨_, rfl⟩
  | kissStat => exact gated_answers .kissStat ⟨_, rfl⟩
  | hw4Byte b =>
    refine gated_answers (.hw4Byte b) ?_
    dsimp only
    split
    · split <;> exact ⟨_, rfl⟩
    · exact ⟨_, rfl⟩
  | hw4Read f =>
    refine gated_answers (.hw4Read f) ?_
    split <;> exact ⟨_, rfl⟩
  | hw4Stat => exact gated_answers .hw4Stat ⟨_, rfl⟩
  | cmnCrcErr => exact gated_answers .cmnCrcErr ⟨_, rfl⟩
  | cmnErr => exact gated_answers .cmnErr ⟨_, rfl⟩
  | filtInit m c t =>
    exact gated_answers (.filtInit m c t) (guardedBy_answers (guardedBy_answers (guardedBy_answers ⟨_, rfl⟩)))
  | filtApply m x => exact gated_answers (.filtApply m x) (guardedBy_answers ⟨_, rfl⟩)
  | filtRead m f =>
    refine gated_answers (.filtRead m f) (guardedBy_answers ?_)
    split <;> exact ⟨_, rfl⟩

/-- A command with no legal effect in a state is Illegal there (R251, R252). -/
theorem illegalOutcome_of_not_legal {i : Instr} {s : State} (h : PassesGate i s → ∀ u v, ¬ LegalEffect s i u v) :
    IllegalOutcome (exec i s) s := by
  obtain ⟨t, ht⟩ := exec_answers i s
  rcases exec_cases ht with hill | ⟨hpass, u, v, hl, _⟩
  · exact ht ▸ hill ▸ raiseIllegal_outcome s
  · exact absurd hl (h hpass u v)

/-- A command whose port or protocol check fails is Illegal (R252, 2 and 3). -/
theorem illegalOutcome_of_not_passes {i : Instr} {s : State} (h : ¬ PassesGate i s) : IllegalOutcome (exec i s) s :=
  illegalOutcome_of_not_legal fun hpass => absurd hpass h

/-! ### A command with a legal effect has it -/

theorem guardedBy_of_true {ok : Bool} {s : State} {body : Result} (h : ok = true) : guardedBy ok s body = body := by
  rw [h, guardedBy_true]

/-- A command that passes its port and protocol checks has the legal effect of its rule (R252). -/
theorem LegalEffect.exec_eq {i : Instr} {s u : State} {v : Word} (h : LegalEffect s i u v) (hpass : PassesGate i s) :
    exec i s = answer u v := by
  obtain ⟨hport, hproto⟩ := hpass
  cases h with
  | kissArm m hm => exact (gated_ok hport hproto).trans (guardedBy_of_true (validMotor_iff.mpr hm))
  | kissRxCapture b hp => exact (gated_ok hport hproto).trans (if_pos hp)
  | kissRxDrop b hp => exact (gated_ok hport hproto).trans (if_neg hp)
  | kissDecodeIncomplete hp => exact (gated_ok hport hproto).trans (if_pos hp)
  | kissDecodeComplete hp hc => exact (gated_ok hport hproto).trans ((if_neg hp).trans (if_pos hc))
  | kissDecodeBadCrc hp hc => exact (gated_ok hport hproto).trans ((if_neg hp).trans (if_neg hc))
  | kissAge m hm => exact (gated_ok hport hproto).trans (guardedBy_of_true (validMotor_iff.mpr hm))
  | kissRead m f v hm hf =>
    refine (gated_ok hport hproto).trans ((guardedBy_of_true (validMotor_iff.mpr hm)).trans ?_)
    rw [hf]
  | kissTakeDirty | kissStat | hw4Stat | cmnCrcErr | cmnErr => exact gated_ok hport hproto
  | hw4BytePending b hc => exact (gated_ok hport hproto).trans (if_neg hc)
  | hw4ByteValid b hc hv => exact (gated_ok hport hproto).trans ((if_pos hc).trans (if_pos hv))
  | hw4ByteInvalid b hc hv => exact (gated_ok hport hproto).trans ((if_pos hc).trans (if_neg hv))
  | hw4Read f v hf =>
    refine (gated_ok hport hproto).trans ?_
    rw [hf]
  | filtInit m c t hm ha =>
    simp only [filtArgsOk, Bool.and_eq_true, decide_eq_true_eq] at ha
    obtain ⟨⟨hc, ht⟩, hn⟩ := ha
    refine (gated_ok hport hproto).trans ((guardedBy_of_true (validMotor_iff.mpr hm)).trans
      ((guardedBy_of_true ?_).trans (guardedBy_of_true ?_)))
    · simpa using ⟨hc, ht⟩
    · simpa using hn
  | filtApply m x hm hr =>
    exact (gated_ok hport hproto).trans (guardedBy_of_true (Bool.and_eq_true_iff.mpr ⟨validMotor_iff.mpr hm, hr⟩))
  | filtRead m f v hm hf =>
    refine (gated_ok hport hproto).trans ((guardedBy_of_true (validMotor_iff.mpr hm)).trans ?_)
    rw [hf]

/-- A legal effect completes the command with its value (R16, R104). -/
theorem LegalEffect.completes {i : Instr} {s u : State} {v : Word} (h : LegalEffect s i u v) (hpass : PassesGate i s) :
    Completes i s u v :=
  ⟨_, h.exec_eq hpass, sameBlock_respond u .ok v, h.responds⟩

/-! ### The port and protocol checks of the host commands -/

/-- A command gated by a protocol passes on its port under that protocol (R252). -/
theorem passesGate_iff {i : Instr} {s : State} {q : Proto} (hq : i.neededProto = some q) :
    PassesGate i s ↔ s.port = i.port ∧ s.cfg.proto = q := by
  simp [PassesGate, hq]

/-- A command that no protocol gates passes on its port (R252). -/
theorem passesGate_iff_of_none {i : Instr} {s : State} (hq : i.neededProto = none) :
    PassesGate i s ↔ s.port = i.port := by
  simp [PassesGate, hq]

/-! ### Field selectors -/

/-- The fields of a record in the order of their selectors (R110). -/
theorem kissField_eq_getElem? (r : KissRecord) (f : Byte) :
    kissField r f =
      [BitVec.ofNat 32 r.age.toNat, BitVec.ofInt 32 r.temperature.toInt, r.voltageCenti, r.currentCenti,
        r.consumptionMah, r.rpmErpmUnits][f.toNat]? := by
  unfold kissField
  rcases f.toNat with _ | _ | _ | _ | _ | _ | n <;> simp [BitVec.signExtend]

/-- The raw fields in the order of their selectors (R111). -/
theorem hw4Field_eq_getElem? (r : Hw4Raw) (f : Byte) :
    hw4Field r f =
      ([r.counter.toNat, r.throttle.toNat, r.pwm.toNat, r.rpm.toNat, r.voltage.toNat, r.current.toNat,
        r.tempFet.toNat, r.tempBec.toNat][f.toNat]?).map (BitVec.ofNat 32) := by
  unfold hw4Field
  rcases f.toNat with _ | _ | _ | _ | _ | _ | _ | _ | n <;> simp

/-- The filter fields in the order of their selectors (R112). -/
theorem filtField_eq_getElem? (b : Biquad) (f : Byte) :
    filtField b f = [b.inp, b.out, b.s1, b.s2, b.b0, b.b1, b.b2, b.a1, b.a2][f.toNat]? := by
  unfold filtField
  rcases f.toNat with _ | _ | _ | _ | _ | _ | _ | _ | _ | n <;> simp

/-- A selector of a record field is at most 5 (R110). -/
theorem kissField_selector_le {r : KissRecord} {f : Byte} {v : Word} (h : kissField r f = some v) : f.toNat ≤ 5 :=
  Nat.le_of_lt_succ (List.getElem?_eq_some_iff.mp (kissField_eq_getElem? r f ▸ h)).1

/-- A selector of a raw HW4 field is at most 7 (R111). -/
theorem hw4Field_selector_le {r : Hw4Raw} {f : Byte} {v : Word} (h : hw4Field r f = some v) : f.toNat ≤ 7 := by
  obtain ⟨n, hn, _⟩ := Option.map_eq_some_iff.mp (hw4Field_eq_getElem? r f ▸ h)
  exact Nat.le_of_lt_succ (List.getElem?_eq_some_iff.mp hn).1

/-- A selector of a filter field is at most 8 (R112). -/
theorem filtField_selector_le {b : Biquad} {f : Byte} {v : Word} (h : filtField b f = some v) : f.toNat ≤ 8 :=
  Nat.le_of_lt_succ (List.getElem?_eq_some_iff.mp (filtField_eq_getElem? b f ▸ h)).1

/-! ### Bytes put together -/

/-- A byte appended below a number that leaves it room (R15). -/
theorem toNat_shiftLeft_or_byte {n w : Nat} (hi : BitVec n) (lo : Byte) (h : n + 8 ≤ w) :
    (hi.setWidth w <<< 8 ||| lo.setWidth w).toNat = 256 * hi.toNat + lo.toNat := by
  have hlo : lo.toNat < 2 ^ 8 := lo.isLt
  have hroom : hi.toNat <<< 8 < 2 ^ w := by
    calc hi.toNat <<< 8 = hi.toNat * 2 ^ 8 := Nat.shiftLeft_eq _ _
      _ < 2 ^ n * 2 ^ 8 := Nat.mul_lt_mul_of_pos_right hi.isLt (by decide)
      _ = 2 ^ (n + 8) := (Nat.pow_add 2 n 8).symm
      _ ≤ 2 ^ w := Nat.pow_le_pow_right (by decide) h
  rw [BitVec.toNat_or, BitVec.toNat_shiftLeft, BitVec.toNat_setWidth_of_le (by omega),
    BitVec.toNat_setWidth_of_le (by omega), Nat.mod_eq_of_lt hroom, ← Nat.shiftLeft_add_eq_or_of_lt hlo,
    Nat.shiftLeft_eq, Nat.mul_comm]

theorem be16_eq_ofNat (x y : Byte) : be16 x y = BitVec.ofNat 16 (256 * x.toNat + y.toNat) := by
  rw [← toNat_shiftLeft_or_byte (w := 16) x y (by decide), BitVec.ofNat_toNat, BitVec.setWidth_eq, be16]

theorem be16Word_eq_ofNat (x y : Byte) : be16Word x y = BitVec.ofNat 32 (256 * x.toNat + y.toNat) := by
  rw [← toNat_shiftLeft_or_byte (w := 16) x y (by decide), BitVec.ofNat_toNat, be16Word, be16]

/-- Three bytes are two bytes with a third below them (R15). -/
theorem be24_eq_be16_append (x y z : Byte) : be24 x y z = (be16 x y).setWidth 24 <<< 8 ||| z.setWidth 24 := by
  have hx : (x.setWidth 16 <<< 8).setWidth 24 = x.setWidth 24 <<< 8 := by
    apply BitVec.eq_of_toNat_eq
    simp only [BitVec.toNat_setWidth, BitVec.toNat_shiftLeft, Nat.shiftLeft_eq]
    omega
  have hy : (y.setWidth 16).setWidth 24 = y.setWidth 24 := BitVec.setWidth_setWidth (by decide)
  rw [be24, be16, BitVec.setWidth_or, hx, hy, BitVec.shiftLeft_or_distrib, ← BitVec.shiftLeft_add]

theorem be24_eq_ofNat (x y z : Byte) :
    be24 x y z = BitVec.ofNat 24 (65536 * x.toNat + 256 * y.toNat + z.toNat) := by
  have hxy : (be16 x y).toNat = 256 * x.toNat + y.toNat := toNat_shiftLeft_or_byte x y (by decide)
  have hnat : 65536 * x.toNat + 256 * y.toNat + z.toNat = 256 * (be16 x y).toNat + z.toNat := by omega
  rw [hnat, ← toNat_shiftLeft_or_byte (w := 24) _ z (by decide), BitVec.ofNat_toNat, BitVec.setWidth_eq,
    be24_eq_be16_append]

/-- The layout of a STAT response (R114, R115). -/
theorem statWord_layout (hi lo : Byte) :
    (statWord hi lo).extractLsb' 0 8 = lo ∧ (statWord hi lo).extractLsb' 8 8 = hi ∧
      (statWord hi lo).extractLsb' 16 16 = 0 := by
  have hv : (statWord hi lo).toNat = 256 * hi.toNat + lo.toNat := toNat_shiftLeft_or_byte hi lo (by decide)
  have hhi := hi.isLt
  have hlo := lo.isLt
  refine ⟨?_, ?_, ?_⟩ <;> apply BitVec.eq_of_toNat_eq <;>
    rw [BitVec.extractLsb'_toNat, hv, Nat.shiftRight_eq_div_pow]
  · omega
  · omega
  · rw [show (0 : BitVec 16).toNat = 0 from rfl]
    omega

/-! ### The read and STAT commands -/

/-- Settles O29: the selector picks the field of `kissField`, and a selector above 5 picks none. -/
theorem kissReadAnswersTheField : Obligations.KissReadAnswersTheField := by
  refine ⟨fun w m f rest => ?_, fun m f s => ⟨fun r v hr ⟨hport, hproto, hm⟩ hv => ?_, fun h => ?_⟩⟩
  · rw [decode_one_word_iff (row_mem 4) rfl]
    simp [idxField, data8Field]
  · have hf : kissField (s.record m) f = some v := by rw [record_of_getElem? s m r hr, kissField_eq_getElem?, hv]
    exact (LegalEffect.kissRead m f v hm hf).completes ((passesGate_iff rfl).mpr ⟨hport, hproto⟩)
  · refine illegalOutcome_of_not_legal fun hpass u v hl => ?_
    obtain ⟨hport, hproto⟩ := (passesGate_iff rfl).mp hpass
    cases hl with
    | kissRead _ _ _ hm hf => exact h ⟨hport, hproto, hm, kissField_selector_le hf⟩

/-- Settles O42: the selector picks the raw field of `hw4Field`, and a selector above 7 picks none. -/
theorem hw4ReadAnswersTheField : Obligations.Hw4ReadAnswersTheField := by
  refine ⟨fun w f rest => ?_, fun f s => ⟨fun v hgate hv => ?_, fun h => ?_⟩⟩
  · rw [decode_one_word_iff (row_mem 8) rfl]
    simp [data8Field]
  · have hf : hw4Field s.hw4Raw f = some (BitVec.ofNat 32 v) := by rw [hw4Field_eq_getElem?, hv, Option.map_some]
    exact (LegalEffect.hw4Read f _ hf).completes ((passesGate_iff rfl).mpr hgate)
  · refine illegalOutcome_of_not_legal fun hpass u v hl => ?_
    obtain ⟨hport, hproto⟩ := (passesGate_iff rfl).mp hpass
    cases hl with
    | hw4Read _ _ hf => exact h ⟨hport, hproto, hw4Field_selector_le hf⟩

/-- Settles O53: as `KISS.READ`, from the filter bank, under any protocol and whether or not the filter is ready. -/
theorem filtReadAnswersTheField : Obligations.FiltReadAnswersTheField := by
  refine ⟨fun w m f rest => ?_, fun m f s => ⟨fun b v hb ⟨hport, hm⟩ hv => ?_, fun h => ?_⟩⟩
  · rw [decode_one_word_iff (row_mem 14) rfl]
    simp [idxField, data8Field]
  · have hf : filtField (s.filter m) f = some v := by rw [filter_of_getElem? s m b hb, filtField_eq_getElem?, hv]
    exact (LegalEffect.filtRead m f v hm hf).completes ((passesGate_iff_of_none rfl).mpr hport)
  · refine illegalOutcome_of_not_legal fun hpass u v hl => ?_
    have hport := (passesGate_iff_of_none rfl).mp hpass
    cases hl with
    | filtRead _ _ _ hm hf => exact h ⟨hport, hm, filtField_selector_le hf⟩

/-- Settles O31: the response of `KISS.STAT` is the STAT word of `kissMotor` over `kissPos`. -/
theorem kissStatShowsPositionAndMotor : Obligations.KissStatShowsPositionAndMotor := by
  refine ⟨fun w rest => decode_fixed_word_iff (row_mem 6) rest, fun s => ⟨fun hgate => ?_, fun h => ?_⟩⟩
  · exact ⟨_, LegalEffect.kissStat.completes ((passesGate_iff rfl).mpr hgate), statWord_layout _ _⟩
  · exact illegalOutcome_of_not_passes (mt (passesGate_iff rfl).mp h)

/-- Settles O43: the response of `HW4.STAT` is the STAT word of `hw4Skip` over `hw4Read`. -/
theorem hw4StatShowsFillAndSkip : Obligations.Hw4StatShowsFillAndSkip := by
  refine ⟨fun w rest => decode_fixed_word_iff (row_mem 9) rest, fun s => ⟨fun hgate => ?_, fun h => ?_⟩⟩
  · exact ⟨_, LegalEffect.hw4Stat.completes ((passesGate_iff rfl).mpr hgate), statWord_layout _ _⟩
  · exact illegalOutcome_of_not_passes (mt (passesGate_iff rfl).mp h)

/-! ### `KISS.DECODE` -/

theorem not_kissPos_lt {s : State} (h : 10 ≤ s.kissPos.toNat) : ¬ s.kissPos < kissFrameLen :=
  Nat.not_lt.mpr h

theorem kissFrameOk_iff {buf : Vector Byte 10} : kissFrameOk buf = true ↔ crc8 (buf.toList.take 9) = buf[9] :=
  beq_iff_eq

/-- The record of a frame, each field as the number its bytes are (R74, R141). -/
theorem kissFields_eq_ofNat (buf : Vector Byte 10) :
    kissFields buf =
      { age := 0
        temperature := BitVec.ofNat 16 buf[0].toNat
        voltageCenti := BitVec.ofNat 32 (256 * buf[1].toNat + buf[2].toNat)
        currentCenti := BitVec.ofNat 32 (256 * buf[3].toNat + buf[4].toNat)
        consumptionMah := BitVec.ofNat 32 (256 * buf[5].toNat + buf[6].toNat)
        rpmErpmUnits := BitVec.ofNat 32 (256 * buf[7].toNat + buf[8].toNat) } := by
  simp only [kissFields, be16Word_eq_ofNat, BitVec.ofNat_toNat]

/-- The counted error as a number modulo 2^32 (R43). -/
theorem countError_eq_ofNat (s : State) :
    s.countError = { s with crcErrorCount := BitVec.ofNat 32 (s.crcErrorCount.toNat + 1) } := by
  rw [BitVec.ofNat_add, BitVec.ofNat_toNat, BitVec.setWidth_eq]
  rfl

/-- Settles O27: the three legal effects of `KISS.DECODE`, told apart by the position and the CRC. -/
theorem kissDecodeHasThreeResults : Obligations.KissDecodeHasThreeResults := by
  refine ⟨fun w rest => decode_fixed_word_iff (row_mem 2) rest, fun s =>
    ⟨fun ⟨hport, hproto, hpos⟩ => ?pending, fun ⟨hport, hproto, hpos, hcrc⟩ => ?complete,
      fun ⟨hport, hproto, hpos, hcrc⟩ => ?failed, fun h => ?illegal⟩⟩
  case pending =>
    exact (LegalEffect.kissDecodeIncomplete hpos).completes ((passesGate_iff rfl).mpr ⟨hport, hproto⟩)
  case complete =>
    rw [← kissFields_eq_ofNat]
    exact (LegalEffect.kissDecodeComplete (not_kissPos_lt hpos) (kissFrameOk_iff.mpr hcrc)).completes
      ((passesGate_iff rfl).mpr ⟨hport, hproto⟩)
  case failed =>
    rw [← countError_eq_ofNat]
    exact (LegalEffect.kissDecodeBadCrc (not_kissPos_lt hpos) (mt kissFrameOk_iff.mp hcrc)).completes
      ((passesGate_iff rfl).mpr ⟨hport, hproto⟩)
  case illegal => exact illegalOutcome_of_not_passes (mt (passesGate_iff rfl).mp h)

/-! ### `HW4.BYTE` -/

theorem hw4Sync_of_skip {b : Byte} {s : State} (h : s.hw4Skip > 0) :
    hw4Sync b s = ({ s with hw4Skip := s.hw4Skip - 1 }, false) :=
  if_pos h

theorem hw4Sync_of_sync {b : Byte} {s : State} (hskip : s.hw4Skip = 0) (hread : s.hw4Read = 0)
    (hb : b = hw4SyncMarker) : hw4Sync b s = ({ s with hw4Buf := s.hw4Buf.set 0 b, hw4Read := 1 }, false) := by
  simp [hw4Sync, hskip, hread, hb]

theorem hw4Sync_of_hunt {b : Byte} {s : State} (hskip : s.hw4Skip = 0) (hread : s.hw4Read = 0)
    (hb : b ≠ hw4SyncMarker) : hw4Sync b s = (s, false) := by
  simp [hw4Sync, hskip, hread, hb]

theorem hw4Sync_of_signature {b : Byte} {s : State} (hskip : s.hw4Skip = 0) (hread : s.hw4Read = 1)
    (hb : b = hw4SyncMarker) : hw4Sync b s = ({ s with hw4Read := 0, hw4Skip := hw4SigSkip }, false) := by
  simp [hw4Sync, hskip, hread, hb]

/-- A write inside a buffer is the bounds-checked write (R180). -/
theorem setIfInBounds_eq_set {n : Nat} (buf : Vector Byte n) (j : Nat) (b : Byte) (h : j < n) :
    buf.setIfInBounds j b = buf.set j b := by
  refine Vector.ext fun k hk => ?_
  rw [Vector.getElem_setIfInBounds hk, Vector.getElem_set]

theorem hw4Sync_of_append {b : Byte} {s : State} (h : s.hw4Read.toNat < 18) (hskip : s.hw4Skip = 0)
    (hread : s.hw4Read ≠ 0) (hsig : ¬ (s.hw4Read = 1 ∧ b = hw4SyncMarker)) :
    hw4Sync b s = ({ s with hw4Buf := s.hw4Buf.set s.hw4Read.toNat b, hw4Read := s.hw4Read + 1 }, false) := by
  have hlast : s.hw4Read + 1 ≠ hw4FrameLen := by
    rw [hw4FrameLen]
    bv_omega
  rw [hw4Sync, if_neg (by simp [hskip]), if_neg hread, if_neg hsig, ← setIfInBounds_eq_set]
  exact if_neg hlast

theorem hw4Sync_of_last {b : Byte} {s : State} (hskip : s.hw4Skip = 0) (hread : s.hw4Read = 18) :
    hw4Sync b s = ({ s with hw4Buf := s.hw4Buf.set 18 b, hw4Read := 0 }, true) := by
  rw [← setIfInBounds_eq_set]
  simp [hw4Sync, hskip, hread, hw4FrameLen]

/-- The seven sanity bytes as numbers (R181, conflict C1). -/
theorem hw4Valid_iff {buf : Vector Byte 19} :
    hw4Valid buf = true ↔
      (buf[4].toNat < 4 ∧ buf[6].toNat < 4 ∧ buf[8].toNat < 4) ∧
        buf[11].toNat < 0x0F ∧ buf[13].toNat < 0x0F ∧ buf[15].toNat < 0x0F ∧ buf[17].toNat < 0x0F := by
  simp [hw4Valid, hw4SmallLimit, hw4HighLimit, BitVec.lt_def, and_assoc]

/-- The raw fields of a frame, each as the number its bytes are (R119, R182). -/
theorem hw4Fields_eq_ofNat (buf : Vector Byte 19) :
    hw4Fields buf =
      { counter := BitVec.ofNat 24 (65536 * buf[1].toNat + 256 * buf[2].toNat + buf[3].toNat)
        throttle := BitVec.ofNat 16 (256 * buf[4].toNat + buf[5].toNat)
        pwm := BitVec.ofNat 16 (256 * buf[6].toNat + buf[7].toNat)
        rpm := BitVec.ofNat 24 (65536 * buf[8].toNat + 256 * buf[9].toNat + buf[10].toNat)
        voltage := BitVec.ofNat 16 (256 * buf[11].toNat + buf[12].toNat)
        current := BitVec.ofNat 16 (256 * buf[13].toNat + buf[14].toNat)
        tempFet := BitVec.ofNat 16 (256 * buf[15].toNat + buf[16].toNat)
        tempBec := BitVec.ofNat 16 (256 * buf[17].toNat + buf[18].toNat) } := by
  simp only [hw4Fields, be16_eq_ofNat, be24_eq_ofNat]

section
variable {b : Byte} {s u : State} (hpass : PassesGate (.hw4Byte b) s)
include hpass

/-- A byte that completes no frame answers 0 (R116, R183). -/
theorem hw4Byte_completes_pending (h : hw4Sync b s = (u, false)) : Completes (.hw4Byte b) s u 0 := by
  have hl := LegalEffect.hw4BytePending (s := s) b (by simp [h])
  rw [h] at hl
  exact hl.completes hpass

/-- A byte that completes a valid frame latches its fields and answers 1 (R116, R183). -/
theorem hw4Byte_completes_valid (h : hw4Sync b s = (u, true)) (hv : hw4Valid u.hw4Buf = true) :
    Completes (.hw4Byte b) s { u with hw4Raw := hw4Fields u.hw4Buf } 1 := by
  have hl := LegalEffect.hw4ByteValid (s := s) b (by simp [h]) (by rwa [h])
  rw [h] at hl
  exact hl.completes hpass

/-- A byte that completes an invalid frame counts an error and answers 2 (R116, R183). -/
theorem hw4Byte_completes_invalid (h : hw4Sync b s = (u, true)) (hv : hw4Valid u.hw4Buf ≠ true) :
    Completes (.hw4Byte b) s u.countError 2 := by
  have hl := LegalEffect.hw4ByteInvalid (s := s) b (by simp [h]) (by rwa [h])
  rw [h] at hl
  exact hl.completes hpass

end

/-- Settles O41: the six cases of the synchroniser, the last with its two results. -/
theorem hw4ByteFollowsTheSynchroniser : Obligations.Hw4ByteFollowsTheSynchroniser := by
  refine ⟨fun w b rest => ?_, fun b s => ⟨fun hgate => ?_, fun h => ?_⟩⟩
  · rw [decode_one_word_iff (row_mem 7) rfl]
    simp [data8Field]
  · have hpass : PassesGate (.hw4Byte b) s := (passesGate_iff rfl).mpr hgate
    refine ⟨fun hskip => ?skip, fun hskip hread hb => ?sync, fun hskip hread hb => ?hunt,
      fun hskip hread hb => ?signature, fun hlt hskip hread hsig => ?append,
      fun hskip hread => ⟨fun hv => ?valid, fun hv => ?invalid⟩⟩
    case skip => exact hw4Byte_completes_pending hpass (hw4Sync_of_skip hskip)
    case sync =>
      subst hb
      exact hw4Byte_completes_pending hpass (hw4Sync_of_sync hskip hread rfl)
    case hunt => exact hw4Byte_completes_pending hpass (hw4Sync_of_hunt hskip hread hb)
    case signature => exact hw4Byte_completes_pending hpass (hw4Sync_of_signature hskip hread hb)
    case append => exact hw4Byte_completes_pending hpass (hw4Sync_of_append hlt hskip hread hsig)
    case valid =>
      rw [← hw4Fields_eq_ofNat]
      exact hw4Byte_completes_valid hpass (hw4Sync_of_last hskip hread) (hw4Valid_iff.mpr hv)
    case invalid =>
      have hc := hw4Byte_completes_invalid hpass (hw4Sync_of_last hskip hread) (mt hw4Valid_iff.mp hv)
      rwa [countError_eq_ofNat] at hc
  · exact illegalOutcome_of_not_passes (mt (passesGate_iff rfl).mp h)

end Sys2Proof.Machine
end

section
/-! PROOF. The remaining KISS commands (R142, R143, R146, R148), the detection of single-bit errors (R145)
and the all-zero frame (R150). -/
namespace Sys2Proof.Machine

/-! ### `KISS.ARM` and `KISS.AGE` -/

/-- A command whose legal effects all have a valid motor is Illegal where its port, its protocol or the motor
is wrong (R252). -/
theorem illegalOutcome_of_not_gate_or_motor {i : Instr} {q : Proto} {m : Byte} {s : State}
    (hq : i.neededProto = some q) (hmotor : ∀ u v, LegalEffect s i u v → m.toNat < s.cfg.motorCount)
    (h : ¬ (s.port = i.port ∧ s.cfg.proto = q ∧ m.toNat < s.cfg.motorCount)) : IllegalOutcome (exec i s) s := by
  refine illegalOutcome_of_not_legal fun hpass u v hl => ?_
  obtain ⟨hport, hproto⟩ := (passesGate_iff hq).mp hpass
  exact h ⟨hport, hproto, hmotor u v hl⟩

/-- Settles O25: the legal effect of `KISS.ARM`, which no state has for an invalid motor. -/
theorem kissArmStartsAFrame : Obligations.KissArmStartsAFrame := by
  refine ⟨fun w m rest => ?_, fun m s => ⟨fun ⟨hport, hproto, hm⟩ => ?_, fun h => ?_⟩⟩
  · rw [decode_one_word_iff (row_mem 0) rfl]
    simp [idxField]
  · exact (LegalEffect.kissArm m hm).completes ((passesGate_iff rfl).mpr ⟨hport, hproto⟩)
  · exact illegalOutcome_of_not_gate_or_motor rfl (fun | _, _, .kissArm _ hm => hm) h

theorem bumpAge_of_lt {ceiling age : Byte} (h : age.toNat < ceiling.toNat) : bumpAge ceiling age = age + 1 :=
  if_pos h

theorem bumpAge_of_le {ceiling age : Byte} (h : ceiling.toNat ≤ age.toNat) : bumpAge ceiling age = age :=
  if_neg (Nat.not_lt.mpr h)

/-- An age below its ceiling has room for one more tick, so its successor is read as a number (R37). -/
theorem setWidth_age_succ {ceiling age : Byte} (h : age.toNat < ceiling.toNat) :
    (age + 1).setWidth 32 = BitVec.ofNat 32 (age.toNat + 1) := by
  have hceiling := ceiling.isLt
  have hsucc : (age + 1).toNat = age.toNat + 1 := by
    rw [BitVec.toNat_add, show (1 : Byte).toNat = 1 from rfl]
    omega
  rw [← BitVec.ofNat_toNat, hsucc]

/-- Writing back the record of a slot changes nothing. -/
theorem setRecord_of_getElem? {s : State} {m : Byte} {r : KissRecord} (h : s.recs[m.toNat]? = some r) :
    s.setRecord m r = s := by
  obtain ⟨hm, rfl⟩ := List.getElem?_eq_some_iff.mp h
  simp [State.setRecord]

/-- `KISS.AGE` of a slot that is there, in terms of the slot's record (R146). -/
theorem kissAge_completes {m : Byte} {s : State} {r : KissRecord} (hpass : PassesGate (.kissAge m) s)
    (hm : m.toNat < s.cfg.motorCount) (hr : s.recs[m.toNat]? = some r) :
    Completes (.kissAge m) s (s.setRecord m { r with age := bumpAge s.cfg.ageInvalid r.age }).setDirty
      ((bumpAge s.cfg.ageInvalid r.age).setWidth 32) :=
  record_of_getElem? s m r hr ▸ (LegalEffect.kissAge m hm).completes hpass

/-- Settles O28: the legal effect of `KISS.AGE`, its bump split at the ceiling. -/
theorem kissAgeBumpsAndSaturates : Obligations.KissAgeBumpsAndSaturates := by
  refine ⟨fun w m rest => ?_, fun m s => ⟨fun r hr ⟨hport, hproto, hm⟩ => ?_, fun h => ?_⟩⟩
  · rw [decode_one_word_iff (row_mem 3) rfl]
    simp [idxField]
  · have hage := kissAge_completes ((passesGate_iff rfl).mpr ⟨hport, hproto⟩) hm hr
    refine ⟨fun hlt => ?bump, fun hle => ?saturate⟩
    case bump => rwa [bumpAge_of_lt hlt, setWidth_age_succ hlt] at hage
    case saturate => rwa [bumpAge_of_le hle, setRecord_of_getElem? hr, ← BitVec.ofNat_toNat] at hage
  · exact illegalOutcome_of_not_gate_or_motor rfl (fun | _, _, .kissAge _ hm => hm) h

/-! ### `KISS.RX` and `KISS.TAKEDIRTY` -/

/-- Settles O26: the two legal effects of `KISS.RX`, told apart by the position. -/
theorem kissRxCapturesOrDrops : Obligations.KissRxCapturesOrDrops := by
  refine ⟨fun w b rest => ?encoding, fun b s => ⟨fun ⟨hport, hproto, hpos⟩ => ?capture,
    fun ⟨hport, hproto, hpos⟩ => ?drop, fun h => ?illegal⟩⟩
  case encoding =>
    rw [decode_one_word_iff (row_mem 1) rfl]
    simp [data8Field]
  case capture =>
    have hpass : PassesGate (.kissRx b) s := (passesGate_iff rfl).mpr ⟨hport, hproto⟩
    refine ⟨_, (LegalEffect.kissRxCapture b hpos).completes hpass, fun j hj => ?_⟩
    rw [Vector.getElem_setIfInBounds hj]
    simp only [eq_comm]
  case drop =>
    exact (LegalEffect.kissRxDrop b (not_kissPos_lt hpos)).completes ((passesGate_iff rfl).mpr ⟨hport, hproto⟩)
  case illegal => exact illegalOutcome_of_not_passes (mt (passesGate_iff rfl).mp h)

theorem bitWord_eq_ite (b : Bool) : bitWord b = if b then 1 else 0 := by
  cases b <;> rfl

/-- Settles O30: the legal effect of `KISS.TAKEDIRTY`. -/
theorem kissTakeDirtyReadsAndClears : Obligations.KissTakeDirtyReadsAndClears := by
  refine ⟨fun w rest => decode_fixed_word_iff (row_mem 5) rest, fun s => ⟨fun hgate => ?_, fun h => ?_⟩⟩
  · rw [← bitWord_eq_ite]
    exact LegalEffect.kissTakeDirty.completes ((passesGate_iff rfl).mpr hgate)
  · exact illegalOutcome_of_not_passes (mt (passesGate_iff rfl).mp h)

/-! ### The CRC loses nothing -/

/-- The polynomial has a constant term, so one round keeps the bit it shifts out in bit 0 (R140). -/
theorem crcShift_getLsbD_zero (v : Byte) : (crcShift v).getLsbD 0 = v.getLsbD 7 := by
  unfold crcShift
  split
  case isTrue h => simp [kissCrcPoly, h]
  case isFalse h => simpa using h

/-- One round can be undone: bit 0 tells which of its two cases was taken (R140). -/
theorem crcShift_injective : Function.Injective crcShift := by
  intro x y h
  have htop : x.getLsbD 7 = y.getLsbD 7 := by rw [← crcShift_getLsbD_zero, h, crcShift_getLsbD_zero]
  have hshift : x <<< 1 = y <<< 1 := by
    unfold crcShift at h
    rw [htop] at h
    split at h
    case isTrue => exact (BitVec.xor_left_inj _).mp h
    case isFalse => exact h
  refine BitVec.eq_of_getElem_eq fun i hi => ?_
  rcases Nat.lt_or_eq_of_le (Nat.le_of_lt_succ hi) with hlow | rfl
  · have hbit := congrArg (·.getLsbD (i + 1)) hshift
    simpa [Nat.succ_lt_succ hlow] using hbit
  · exact htop

theorem crcShift8_injective : Function.Injective crcShift8 := crcShift_injective.iterate 8

/-- The running CRC after a fixed byte tells the one before it. -/
theorem crcStep_left_injective (b : Byte) : Function.Injective (crcStep · b) :=
  fun _ _ h => (BitVec.xor_right_inj _).mp (crcShift8_injective h)

/-- The running CRC after a byte tells the byte, when the one before it is fixed. -/
theorem crcStep_right_injective (crc : Byte) : Function.Injective (crcStep crc) :=
  fun _ _ h => (BitVec.xor_left_inj _).mp (crcShift8_injective h)

/-- The running CRC after fixed bytes tells the one before them. -/
theorem foldl_crcStep_injective (bytes : List Byte) : Function.Injective (bytes.foldl crcStep) := by
  induction bytes with
  | nil => exact Function.injective_id
  | cons b bytes ih => exact ih.comp (crcStep_left_injective b)

/-- A changed byte changes the CRC (R145). -/
theorem crc8_set_ne {bytes : List Byte} {k : Nat} (hk : k < bytes.length) {b : Byte} (hb : b ≠ bytes[k]) :
    crc8 (bytes.set k b) ≠ crc8 bytes := by
  intro h
  have hset : bytes.set k b = bytes.take k ++ b :: bytes.drop (k + 1) := by
    rw [List.set_eq_take_append_cons_drop, if_pos hk]
  have hsplit : bytes = bytes.take k ++ bytes[k] :: bytes.drop (k + 1) := by simp
  have hcrc : crc8 (bytes.take k ++ b :: bytes.drop (k + 1)) =
      crc8 (bytes.take k ++ bytes[k] :: bytes.drop (k + 1)) := by rwa [← hset, ← hsplit]
  simp only [crc8, List.foldl_append, List.foldl_cons] at hcrc
  exact hb (crcStep_right_injective _ (foldl_crcStep_injective _ hcrc))

/-! ### Corrupted frames -/

/-- A frame whose CRC agrees no longer agrees once any one byte is changed, the check byte included (R145). -/
theorem kissFrameOk_set_ne {buf : Vector Byte 10} (h : kissFrameOk buf = true) (k : Fin 10) {b : Byte}
    (hb : b ≠ buf[k]) : kissFrameOk (buf.set k b) ≠ true := by
  rw [kissFrameOk_iff] at h
  rw [Ne, kissFrameOk_iff, Vector.toList_set, List.take_set]
  rcases Nat.lt_or_eq_of_le (Nat.le_of_lt_succ k.isLt) with hpayload | hcheck
  · rw [Vector.getElem_set_ne _ _ (Nat.ne_of_lt hpayload), ← h]
    exact crc8_set_ne (by simpa using hpayload) (by simpa using hb)
  · have hlen : (buf.toList.take 9).length ≤ k := by simp [hcheck]
    rw [List.set_eq_of_length_le hlen, h]
    simpa [hcheck] using Ne.symm hb

theorem flipped_bit_ne (b : Byte) (j : Fin 8) : b ^^^ (1#8 <<< j.val) ≠ b := by
  intro h
  have hbit := congrArg (·.getLsbD j) h
  simp at hbit

/-- A decode that answers `FRAME_COMPLETE` passed its gate and found a frame whose CRC agrees (R113, R144). -/
theorem kissDecode_complete_cases {s t : State} (h : exec .kissDecode s = .next t)
    (hresp : s.Responds t s.port .ok 1) :
    PassesGate .kissDecode s ∧ ¬ s.kissPos < kissFrameLen ∧ kissFrameOk s.kissBuf = true := by
  rcases exec_cases h with hill | ⟨hpass, u, v, hl, rfl⟩
  · exact absurd hresp (not_responds_ok (raiseIllegal_next hill).2)
  · have hv : 1 = v := hl.responds_ok_iff.mp hresp
    cases hl with
    | kissDecodeIncomplete => exact absurd hv (by decide)
    | kissDecodeComplete hp hc => exact ⟨hpass, hp, hc⟩
    | kissDecodeBadCrc => exact absurd hv (by decide)

/-- Settles O35: a flipped bit changes one byte, and the CRC detects every changed byte. -/
theorem singleBitErrorsAreDetected : Obligations.SingleBitErrorsAreDetected := by
  intro s u k j _ hexec hresp
  obtain ⟨hpass, hpos, hok⟩ := kissDecode_complete_cases hexec hresp
  have hbad := kissFrameOk_set_ne hok k (flipped_bit_ne s.kissBuf[k] j)
  exact (LegalEffect.kissDecodeBadCrc
    (s := { s with kissBuf := s.kissBuf.set k (s.kissBuf[k] ^^^ (1#8 <<< j.val)) }) hpos hbad).completes hpass

/-! ### The all-zero frame -/

/-- Zero bytes keep the zero seed, however many they are (R140, R150). -/
theorem crc8_replicate_zero (n : Nat) : crc8 (List.replicate n 0) = 0 :=
  List.foldlRecOn (motive := (· = 0)) _ crcStep rfl fun crc hcrc b hb => by
    rw [hcrc, List.eq_of_mem_replicate hb]
    rfl

/-- Settles O39: the CRC of nine zero bytes is the zero check byte, and the fields of a zero frame are 0. -/
theorem allZeroFrameIsAccepted : Obligations.AllZeroFrameIsAccepted := by
  intro s hport hproto hpos hbuf
  have hcrc : kissFrameOk s.kissBuf = true := by
    rw [kissFrameOk_iff, hbuf, Vector.toList_replicate, List.take_replicate, Vector.getElem_replicate]
    exact crc8_replicate_zero 9
  have hfields : kissFields s.kissBuf = ⟨0, 0, 0, 0, 0, 0⟩ := hbuf ▸ rfl
  have hdecode := (LegalEffect.kissDecodeComplete (not_kissPos_lt_of_complete hpos) hcrc).completes
    ((passesGate_iff rfl).mpr ⟨hport, hproto⟩)
  rwa [hfields] at hdecode

end Sys2Proof.Machine
end

section
/-! PROOF. Commands with argument words, and from them `FILT.INIT` (R212). -/
namespace Sys2Proof.Machine

/-! ### Commands with argument words -/

/-- A command whose argument words are all there is decoded from the words that match its row and hold its
operands, whatever follows them (R105, R107). -/
theorem decode_with_args_iff {name : String} {pattern mask w : Word} {n : Nat}
    {build : Word → Word → Word → Instr} {i : Instr} {args : List Word}
    (hr : ⟨name, pattern, mask, n, build⟩ ∈ opcodeTable) (hname : name = i.mnemonic) (hargs : args.length = n)
    (rest : List Word) :
    decode (w :: (args ++ rest)) = .ok (i, rest) ↔
      w &&& mask = pattern ∧ build w ((args ++ rest).getD 0 0) ((args ++ rest).getD 1 0) = i := by
  rw [decode_ok_iff]
  constructor
  · rintro ⟨q, hq, hm, _, hb, _⟩
    obtain rfl : q = ⟨name, pattern, mask, n, build⟩ :=
      row_eq_of_mnemonic hq hr (by rw [← mnemonic_build hq, hb, ← hname])
    exact ⟨rowMatches_iff.mp hm, hb⟩
  · rintro ⟨hm, hb⟩
    refine ⟨_, hr, rowMatches_iff.mpr hm, ?_, hb, List.drop_left' hargs⟩
    simp [hargs]

/-! ### `FILT.INIT` -/

/-- The arguments of `FILT.INIT` are in range when both are nonzero and the cutoff is below Nyquist (R212). -/
theorem filtArgsOk_iff {c t : Word} :
    filtArgsOk c t = true ↔ c ≠ 0 ∧ t ≠ 0 ∧ 2 * c.toNat * t.toNat < 1000000 := by
  simp only [filtArgsOk, Bool.and_eq_true, decide_eq_true_eq, and_assoc]

/-- Settles O51: the legal effect of `FILT.INIT`, which no state has for an invalid motor or arguments out of
range. -/
theorem filtInitConfiguresTheFilter : Obligations.FiltInitConfiguresTheFilter := by
  refine ⟨fun w a0 a1 c t m rest => ?encoding, fun m c t s => ⟨fun ⟨hport, hm, hargs⟩ => ?legal, fun h => ?illegal⟩⟩
  case encoding =>
    exact (decode_with_args_iff (args := [a0, a1]) (row_mem 12) rfl rfl rest).trans (by simp [idxField])
  case legal =>
    exact (LegalEffect.filtInit m c t hm (filtArgsOk_iff.mpr hargs)).completes ((passesGate_iff_of_none rfl).mpr hport)
  case illegal =>
    refine illegalOutcome_of_not_legal fun hpass u v hl => ?_
    have hport := (passesGate_iff_of_none rfl).mp hpass
    cases hl with
    | filtInit _ _ _ hm ha => exact h ⟨hport, hm, filtArgsOk_iff.mp ha⟩

end Sys2Proof.Machine
end

section
/-! PROOF. The common unit: `CMN.CRCERR` (R240) and `CMN.ERR` (R241). -/
namespace Sys2Proof.Machine

/-- Where no protocol gates a command and its own rule is legal, its port alone decides: the legal effect on
its row's port, the Illegal outcome on the other (R252). -/
theorem LegalEffect.outcome_by_port {i : Instr} {s u : State} {v : Word} (h : LegalEffect s i u v)
    (hq : i.neededProto = none) :
    (s.port = i.port → Completes i s u v) ∧ (s.port ≠ i.port → IllegalOutcome (exec i s) s) :=
  ⟨fun hport => h.completes ((passesGate_iff_of_none hq).mpr hport),
    fun hport => illegalOutcome_of_not_passes (mt (passesGate_iff_of_none hq).mp hport)⟩

/-- Settles O49: the legal effect of `CMN.CRCERR`, which every state has. -/
theorem cmnCrcErrAnswersTheCounter : Obligations.CmnCrcErrAnswersTheCounter :=
  ⟨fun _ rest => decode_fixed_word_iff (row_mem 10) rest, fun _ => LegalEffect.cmnCrcErr.outcome_by_port rfl⟩

/-- Settles O50: the legal effect of `CMN.ERR`, which every state has; its response is the flag as a bit. -/
theorem cmnErrAnswersTheFlag : Obligations.CmnErrAnswersTheFlag := by
  refine ⟨fun _ rest => decode_fixed_word_iff (row_mem 11) rest, fun s => ?_⟩
  rw [← bitWord_eq_ite]
  exact LegalEffect.cmnErr.outcome_by_port rfl

end Sys2Proof.Machine
end

section
/-! PROOF. The Illegal outcome: what it leaves of the state (R251), and the checks that decide it (R252). -/
namespace Sys2Proof.Machine

/-! ### Every step answers -/

/-- No step of an admissible machine stops the block, whatever waits on its ports (R250). -/
theorem step_answers {s : State} (hv : s.cfg.Valid) : ∃ t, step s = .next t := by
  rw [step, if_pos hv]
  rcases fetch_cases s with ⟨_, hf⟩ | ⟨p, ts, _, ⟨i, rest, _, hf⟩ | ⟨_, _, hf⟩ | ⟨_, _, _, hf⟩⟩ <;> rw [hf]
  · exact ⟨_, rfl⟩
  · exact exec_answers i (s.taken p ts rest)
  · exact ⟨_, rfl⟩
  · exact ⟨_, rfl⟩

/-- Taking a command from a port is no response: what was answered since is what the command answered (R104). -/
theorem responds_taken_iff {s t : State} {p q : Port} {turns : List Port} {rest : List Word} {a : Ack} {v : Word} :
    (s.taken p turns rest).Responds t q a v ↔ s.Responds t q a v := by
  simp only [State.Responds, output_taken]

/-- Settles O11: a command that answers no OK ended in `raiseIllegal`, which keeps the configuration, so that the
next step answers too. -/
theorem illegalCommandChangesOnlyTheFlag : Obligations.IllegalCommandChangesOnlyTheFlag := by
  intro s t p turns i rest hv ht hd hstep hnoOk
  rw [step_of_decode_ok hv ht hd] at hstep
  have hvt : t.cfg.Valid := by
    rwa [(exec_samePorts hstep).1, taken_cfg]
  rcases exec_cases hstep with hill | ⟨_, u, v, hl, rfl⟩
  · obtain ⟨hsame, hresp⟩ := raiseIllegal_next hill
    rw [taken_port, responds_taken_iff] at hresp
    exact ⟨hsame, hresp, step_answers hvt⟩
  · have hok := hl.responds
    rw [taken_port, responds_taken_iff] at hok
    exact absurd ⟨v, hok⟩ hnoOk

/-! ### The operand checks -/

/-- The operand checks of R252: the operands in range, and the filter that `FILT.APPLY` runs configured. -/
abbrev OperandsOk (i : Instr) (s : State) : Prop :=
  i.wellFormed s.cfg = true ∧ ∀ m x, i = .filtApply m x → (s.filter m).ready = true

/-- Every selector up to 5 names a field of a record (R110). -/
theorem exists_kissField {f : Byte} (r : KissRecord) (h : f.toNat ≤ 5) : ∃ v, kissField r f = some v := by
  rw [kissField_eq_getElem?]
  exact ⟨_, List.getElem?_eq_getElem (Nat.lt_succ_of_le h)⟩

/-- Every selector up to 7 names a raw field of an HW4 frame (R111). -/
theorem exists_hw4Field {f : Byte} (r : Hw4Raw) (h : f.toNat ≤ 7) : ∃ v, hw4Field r f = some v := by
  rw [hw4Field_eq_getElem?]
  exact ⟨_, Option.map_eq_some_iff.mpr ⟨_, List.getElem?_eq_getElem (Nat.lt_succ_of_le h), rfl⟩⟩

/-- Every selector up to 8 names a field of a filter (R112). -/
theorem exists_filtField {f : Byte} (b : Biquad) (h : f.toNat ≤ 8) : ∃ v, filtField b f = some v := by
  rw [filtField_eq_getElem?]
  exact ⟨_, List.getElem?_eq_getElem (Nat.lt_succ_of_le h)⟩

/-- A command with a legal effect passes its operand checks. -/
theorem LegalEffect.operandsOk {i : Instr} {s u : State} {v : Word} (h : LegalEffect s i u v) : OperandsOk i s := by
  refine ⟨?range, ?ready⟩
  case range =>
    cases h with
    | kissArm _ hm | kissAge _ hm | filtApply _ _ hm => exact decide_eq_true hm
    | kissRead _ _ _ hm hf => simp [Instr.wellFormed, hm, kissField_selector_le hf]
    | hw4Read _ _ hf => exact decide_eq_true (hw4Field_selector_le hf)
    | filtInit _ _ _ hm ha => simp [Instr.wellFormed, hm, ha]
    | filtRead _ _ _ hm hf => simp [Instr.wellFormed, hm, filtField_selector_le hf]
    | _ => rfl
  case ready =>
    rintro m x rfl
    cases h with
    | filtApply _ _ _ hr => exact hr

/-- A command that passes its operand checks has a legal effect: which one, the state of its unit tells. -/
theorem exists_legalEffect {i : Instr} {s : State} (h : OperandsOk i s) : ∃ u v, LegalEffect s i u v := by
  obtain ⟨hwf, hready⟩ := h
  cases i with
  | kissArm m => exact ⟨_, _, .kissArm m (of_decide_eq_true hwf)⟩
  | kissRx b =>
    by_cases hp : s.kissPos < kissFrameLen
    · exact ⟨_, _, .kissRxCapture b hp⟩
    · exact ⟨_, _, .kissRxDrop b hp⟩
  | kissDecode =>
    by_cases hp : s.kissPos < kissFrameLen
    · exact ⟨_, _, .kissDecodeIncomplete hp⟩
    · by_cases hc : kissFrameOk s.kissBuf = true
      · exact ⟨_, _, .kissDecodeComplete hp hc⟩
      · exact ⟨_, _, .kissDecodeBadCrc hp hc⟩
  | kissAge m => exact ⟨_, _, .kissAge m (of_decide_eq_true hwf)⟩
  | kissRead m f =>
    obtain ⟨hm, hf⟩ := Bool.and_eq_true_iff.mp hwf
    obtain ⟨v, hv⟩ := exists_kissField (s.record m) (of_decide_eq_true hf)
    exact ⟨_, _, .kissRead m f v (of_decide_eq_true hm) hv⟩
  | kissTakeDirty => exact ⟨_, _, .kissTakeDirty⟩
  | kissStat => exact ⟨_, _, .kissStat⟩
  | hw4Byte b =>
    by_cases hc : (hw4Sync b s).2 = true
    · by_cases hv : hw4Valid (hw4Sync b s).1.hw4Buf = true
      · exact ⟨_, _, .hw4ByteValid b hc hv⟩
      · exact ⟨_, _, .hw4ByteInvalid b hc hv⟩
    · exact ⟨_, _, .hw4BytePending b hc⟩
  | hw4Read f =>
    obtain ⟨v, hv⟩ := exists_hw4Field s.hw4Raw (of_decide_eq_true hwf)
    exact ⟨_, _, .hw4Read f v hv⟩
  | hw4Stat => exact ⟨_, _, .hw4Stat⟩
  | cmnCrcErr => exact ⟨_, _, .cmnCrcErr⟩
  | cmnErr => exact ⟨_, _, .cmnErr⟩
  | filtInit m c t =>
    obtain ⟨hm, hargs⟩ := Bool.and_eq_true_iff.mp hwf
    exact ⟨_, _, .filtInit m c t (of_decide_eq_true hm) hargs⟩
  | filtApply m x => exact ⟨_, _, .filtApply m x (of_decide_eq_true hwf) (hready m x rfl)⟩
  | filtRead m f =>
    obtain ⟨hm, hf⟩ := Bool.and_eq_true_iff.mp hwf
    obtain ⟨v, hv⟩ := exists_filtField (s.filter m) (of_decide_eq_true hf)
    exact ⟨_, _, .filtRead m f v (of_decide_eq_true hm) hv⟩

/-- The flag is no legal effect's to write (R44). -/
theorem LegalEffect.keeps_cmdError {i : Instr} {s u : State} {v : Word} (h : LegalEffect s i u v) :
    u.cmdError = s.cmdError := by
  cases h <;> simp

/-- Settles O12: with its checks passed a command has its legal effect; with one of them failed it has none, and
is Illegal, as a word of no row is by O4. -/
theorem illegalExactlyWhenACheckFails : Obligations.IllegalExactlyWhenACheckFails := by
  refine ⟨reservedEncodingsAreIllegal.2, fun i s => ⟨fun ⟨hport, hproto, hoperands⟩ => ?legal, fun h => ?illegal⟩⟩
  case legal =>
    obtain ⟨u, v, hl⟩ := exists_legalEffect hoperands
    exact ⟨u.respond .ok v, v, hl.exec_eq ⟨hport, hproto⟩, hl.responds,
      (respond_cmdError u .ok v).trans hl.keeps_cmdError⟩
  case illegal =>
    exact illegalOutcome_of_not_legal fun ⟨hport, hproto⟩ _ _ hl => h ⟨hport, hproto, hl.operandsOk⟩

end Sys2Proof.Machine
end

section
/-! PROOF. Encoding and decoding are inverse (R101, R105, R106), and so is the assembler on numbers (R121). -/
namespace Sys2Proof.Machine

/-! ### The fields of an encoded command word -/

/-- The four fields of a command word are those it is put together from (R101). -/
theorem extract_commandWord (op idx data : Byte) :
    (commandWord op idx data).extractLsb' 24 8 = op ∧ (commandWord op idx data).extractLsb' 16 8 = idx ∧
      (commandWord op idx data).extractLsb' 8 8 = 0 ∧ (commandWord op idx data).extractLsb' 0 8 = data := by
  have drop_data (start : Nat) (h : 8 ≤ start) : (commandWord op idx data).extractLsb' start 8 =
      (op ++ idx ++ (0 : Byte)).extractLsb' (start - 8) 8 := BitVec.extractLsb'_append_eq_of_le h
  have drop_rsvd (start : Nat) (h : 8 ≤ start) : (op ++ idx ++ (0 : Byte)).extractLsb' start 8 =
      (op ++ idx).extractLsb' (start - 8) 8 := BitVec.extractLsb'_append_eq_of_le h
  refine ⟨?opcode, ?index, ?reserved, BitVec.extractLsb'_append_eq_right⟩
  case opcode =>
    rw [drop_data 24 (by decide), drop_rsvd 16 (by decide)]
    exact BitVec.extractLsb'_append_eq_left
  case index =>
    rw [drop_data 16 (by decide), drop_rsvd 8 (by decide)]
    exact BitVec.extractLsb'_append_eq_right
  case reserved =>
    rw [drop_data 8 (by decide)]
    exact BitVec.extractLsb'_append_eq_right

@[simp] theorem idxField_commandWord (op idx data : Byte) : idxField (commandWord op idx data) = idx :=
  (extract_commandWord op idx data).2.1

@[simp] theorem data8Field_commandWord (op idx data : Byte) : data8Field (commandWord op idx data) = data :=
  (extract_commandWord op idx data).2.2.2

/-- A word with RSVD 0 is put together from its opcode, IDX and DATA8 (R101). -/
theorem eq_commandWord {w : Word} (h : w.extractLsb' 8 8 = 0) :
    w = commandWord (w.extractLsb' 24 8) (idxField w) (data8Field w) := by
  obtain ⟨hop, hidx, hrsvd, hdata⟩ := extract_commandWord (w.extractLsb' 24 8) (idxField w) (data8Field w)
  exact (eq_iff_fields _ _).mpr ⟨hop.symm, hidx.symm, h.trans hrsvd.symm, hdata.symm⟩

/-- A row matches the command words of its opcode whose fields are operands or 0 (R105, R106). -/
theorem rowMatches_commandWord {r : Row} (hr : r ∈ opcodeTable) {op idx data : Byte}
    (hop : op.toNat = opcodeOf r.pattern) (hidx : op.toNat ∈ idxOpcodes ∨ idx = 0)
    (hdata : op.toNat ∈ data8Opcodes ∨ data = 0) : rowMatches (commandWord op idx data) r = true := by
  obtain ⟨eop, eidx, ersvd, edata⟩ := extract_commandWord op idx data
  rw [rowMatches_iff_fields hr, FieldsAllowed, opcodeOf, eop, eidx, ersvd, edata]
  exact ⟨hop, rfl, hidx.resolve_left, hdata.resolve_left⟩

/-! ### Decoding an encoded command -/

/-- A command word of a row and the row's argument words decode to the command that the row builds (R105, R107). -/
theorem decode_commandWord {name : String} {pattern mask : Word} {n : Nat} {build : Word → Word → Word → Instr}
    {op idx data : Byte} {args : List Word} {i : Instr} {rest : List Word}
    (hr : ⟨name, pattern, mask, n, build⟩ ∈ opcodeTable) (hargs : args.length = n)
    (hop : op.toNat = opcodeOf pattern) (hidx : op.toNat ∈ idxOpcodes ∨ idx = 0)
    (hdata : op.toNat ∈ data8Opcodes ∨ data = 0)
    (hb : build (commandWord op idx data) ((args ++ rest).getD 0 0) ((args ++ rest).getD 1 0) = i) :
    decode (commandWord op idx data :: (args ++ rest)) = .ok (i, rest) :=
  decode_ok_iff.mpr ⟨_, hr, rowMatches_commandWord hr hop hidx hdata, by simp [hargs], hb, List.drop_left' hargs⟩

/-- A command without operands is decoded from its opcode alone (R106). -/
theorem decode_opcode {name : String} {pattern mask : Word} {op : Byte} {i : Instr} (rest : List Word)
    (hr : ⟨name, pattern, mask, 0, fun _ _ _ => i⟩ ∈ opcodeTable) (hop : op.toNat = opcodeOf pattern) :
    decode (commandWord op 0 0 :: rest) = .ok (i, rest) :=
  decode_commandWord (args := []) hr rfl hop (.inr rfl) (.inr rfl) rfl

/-- Settles O1, by cases on the command: its words are those of its row, and the row reads its operands back. -/
theorem commandWordsRoundTrip : Obligations.CommandWordsRoundTrip := by
  intro i rest
  cases i with
  | kissArm m =>
    exact decode_commandWord (args := []) (row_mem 0) rfl rfl (.inl (by decide)) (.inr rfl)
      (congrArg Instr.kissArm (idxField_commandWord ..))
  | kissRx b =>
    exact decode_commandWord (args := []) (row_mem 1) rfl rfl (.inr rfl) (.inl (by decide))
      (congrArg Instr.kissRx (data8Field_commandWord ..))
  | kissDecode => exact decode_opcode rest (row_mem 2) rfl
  | kissAge m =>
    exact decode_commandWord (args := []) (row_mem 3) rfl rfl (.inl (by decide)) (.inr rfl)
      (congrArg Instr.kissAge (idxField_commandWord ..))
  | kissRead m f =>
    exact decode_commandWord (args := []) (row_mem 4) rfl rfl (.inl (by decide)) (.inl (by decide))
      (congrArg₂ Instr.kissRead (idxField_commandWord ..) (data8Field_commandWord ..))
  | kissTakeDirty => exact decode_opcode rest (row_mem 5) rfl
  | kissStat => exact decode_opcode rest (row_mem 6) rfl
  | hw4Byte b =>
    exact decode_commandWord (args := []) (row_mem 7) rfl rfl (.inr rfl) (.inl (by decide))
      (congrArg Instr.hw4Byte (data8Field_commandWord ..))
  | hw4Read f =>
    exact decode_commandWord (args := []) (row_mem 8) rfl rfl (.inr rfl) (.inl (by decide))
      (congrArg Instr.hw4Read (data8Field_commandWord ..))
  | hw4Stat => exact decode_opcode rest (row_mem 9) rfl
  | cmnCrcErr => exact decode_opcode rest (row_mem 10) rfl
  | cmnErr => exact decode_opcode rest (row_mem 11) rfl
  | filtInit m c t =>
    exact decode_commandWord (args := [c, t]) (row_mem 12) rfl rfl (.inl (by decide)) (.inr rfl)
      (congrArg (Instr.filtInit · c t) (idxField_commandWord ..))
  | filtApply m x =>
    exact decode_commandWord (args := [x]) (row_mem 13) rfl rfl (.inl (by decide)) (.inr rfl)
      (congrArg (Instr.filtApply · x) (idxField_commandWord ..))
  | filtRead m f =>
    exact decode_commandWord (args := []) (row_mem 14) rfl rfl (.inl (by decide)) (.inl (by decide))
      (congrArg₂ Instr.filtRead (idxField_commandWord ..) (data8Field_commandWord ..))

/-- Settles O6: each word is written out from the encoding of its command, or has an opcode of no row. -/
theorem sampleWordsDecode : Obligations.SampleWordsDecode :=
  ⟨commandWordsRoundTrip (.kissArm 2) [], commandWordsRoundTrip (.kissRx 0x0A) [],
    commandWordsRoundTrip .kissDecode [], commandWordsRoundTrip (.kissRead 3 2) [],
    commandWordsRoundTrip (.hw4Byte 0xD0) [], commandWordsRoundTrip .cmnCrcErr [],
    commandWordsRoundTrip (.filtInit 0 100 1000) [], commandWordsRoundTrip (.filtApply 1 0x447A0000) [],
    decode_noRow.mpr (find?_eq_none_iff_reserved.mpr fun ⟨hop, _⟩ => absurd hop (by decide))⟩

/-! ### Encoding a decoded command -/

/-- The words of the command that a row builds: its opcode, the fields that are operands, its argument words
(R101, R106, R107). -/
theorem encode_build : ∀ r ∈ opcodeTable, ∀ w a0 a1 : Word,
    encode (r.build w a0 a1) =
      commandWord (r.pattern.extractLsb' 24 8) (if opcodeOf r.pattern ∈ idxOpcodes then idxField w else 0)
        (if opcodeOf r.pattern ∈ data8Opcodes then data8Field w else 0) :: [a0, a1].take r.args := by
  simp [opcodeTable, kissRows, hw4Rows, cmnRows, filtRows, encode]

/-- Every row takes at most two argument words (R107). -/
theorem row_args_le : ∀ r ∈ opcodeTable, r.args ≤ 2 := by decide

/-- The first words of a list are what is read at their places. -/
theorem take_getD_pair {n : Nat} {ws : List Word} (hn : n ≤ 2) (hl : n ≤ ws.length) :
    [ws.getD 0 0, ws.getD 1 0].take n = ws.take n := by
  interval_cases n
  · rfl
  · match ws, hl with
    | x :: ws, _ => rfl
  · match ws, hl with
    | x :: y :: ws, _ => rfl

/-- The words of a port whose head selects a row are the encoding of what the row builds, and the rest. -/
theorem encode_build_of_matches {r : Row} {w : Word} {ws : List Word} (hr : r ∈ opcodeTable)
    (hm : rowMatches w r = true) (hl : r.args ≤ ws.length) :
    w :: ws = encode (r.build w (ws.getD 0 0) (ws.getD 1 0)) ++ ws.drop r.args := by
  obtain ⟨hop, hrsvd, hidx, hdata⟩ := (rowMatches_iff_fields hr).mp hm
  rw [hop] at hidx hdata
  have hidx' : (if opcodeOf r.pattern ∈ idxOpcodes then idxField w else 0) = idxField w :=
    ite_eq_left_iff.mpr fun h => (hidx h).symm
  have hdata' : (if opcodeOf r.pattern ∈ data8Opcodes then data8Field w else 0) = data8Field w :=
    ite_eq_left_iff.mpr fun h => (hdata h).symm
  rw [encode_build r hr, hidx', hdata', ← BitVec.toNat_inj.mp hop, ← eq_commandWord hrsvd,
    take_getD_pair (row_args_le r hr) hl, List.cons_append, List.take_append_drop]

/-- Settles O2: the row that was matched fixes every bit of the word but its operands, which are encoded back. -/
theorem decodedCommandIsItsEncoding : Obligations.DecodedCommandIsItsEncoding := by
  intro ws rest i h
  cases ws with
  | nil => cases h
  | cons w ws =>
    obtain ⟨r, hr, hm, hl, rfl, rfl⟩ := decode_ok_iff.mp h
    exact encode_build_of_matches hr hm hl

/-- Settles O3: rows that match one word have its opcode, which names one row. -/
theorem opcodeRowsDoNotOverlap : Obligations.OpcodeRowsDoNotOverlap := by
  intro w r hr q hq hrw hqw
  obtain ⟨hopr, _⟩ := (rowMatches_iff_fields hr).mp hrw
  obtain ⟨hopq, _⟩ := (rowMatches_iff_fields hq).mp hqw
  rw [row_eq_of_opcode hr hq (hopr.symm.trans hopq)]

/-! ### The assembler -/

/-- A number that is a bit pattern is read back as it (R121). -/
theorem asmNumber_toNat {w : Nat} (b : BitVec w) : asmNumber w (.num b.toNat) = some b := by
  simp [asmNumber, b.isLt]

/-- The mnemonic and the number operands of a command assemble to it (R121). -/
theorem assembleCommand_asmOperands (i : Instr) : assembleCommand i.mnemonic (asmOperands i) = some i := by
  cases i <;> simp [assembleCommand, Instr.mnemonic, asmOperands, asmNumber_toNat, asmSelector, asmFloat]

/-- Settles O7: the mnemonic and the operands assemble to the command, and the line's `@rx` tells the port. -/
theorem assemblyRoundTrip : Obligations.AssemblyRoundTrip := by
  intro p i
  rw [assemble, disassemble, assembleCommand_asmOperands]
  cases p <;> rfl

end Sys2Proof.Machine
end

section
/-! PROOF. Rules of the whole machine: what a step does (R17, R80, R250), who writes which item of state (R43, R44,
R49, R82), what the reads keep (R79) and what every run keeps (R30, R44, R252). -/
namespace Sys2Proof.Machine

/-! ### Steps -/

/-- Settles O8: the step fetches the command and runs it. -/
theorem stepRunsTheDecodedCommand : Obligations.StepRunsTheDecodedCommand :=
  fun _ _ _ _ _ hv ht hd => step_of_decode_ok hv ht hd

/-- Settles O9: without a turn, or without a whole command, the fetch is idle. -/
theorem idleStepOnlyUsesTheTurn : Obligations.IdleStepOnlyUsesTheTurn := by
  refine ⟨fun s hv ht => ?_, fun s p turns e hv ht hd he => ?_⟩
  · simp [step, hv, fetch, ht]
  · cases e with
    | noRow w => exact absurd rfl (he w)
    | noWord | missingArgs => simp [step, hv, fetch, ht, hd]

/-- Settles O10: an admissible machine answers, and an inadmissible one is refused before anything is fetched. -/
theorem stepNeverStops : Obligations.StepNeverStops :=
  fun _ => ⟨step_answers, fun hv => if_neg hv⟩

/-- Settles O23, by the reset lemma behind O22. -/
theorem resetMeetsInvariants : Obligations.ResetMeetsInvariants :=
  fun _ hc => resetWith_inv hc

/-! ### What every run keeps -/

/-- What does not depend on the ports and is kept by the Illegal outcome and by every command holds along a run. -/
theorem Reaches.induct_on_commands {P : State → Prop} {s t : State} (h : Reaches s t) (hs : P s)
    (hturns : ∀ a ts, P a → P { a with turns := ts }) (htaken : ∀ a p ts rest, P a → P (a.taken p ts rest))
    (hill : ∀ a b, P a → raiseIllegal a = .next b → P b) (hexec : ∀ i a b, P a → exec i a = .next b → P b) : P t := by
  refine h.induct_on hs fun a b ha hstep => ?_
  obtain ⟨_, ⟨ts, rfl⟩ | ⟨p, ts, rest, hb⟩ | ⟨i, p, ts, rest, _, hb⟩⟩ := step_cases hstep
  · exact hturns a ts ha
  · exact hill _ b (htaken a p ts rest ha) hb
  · exact hexec i _ b (htaken a p ts rest ha) hb

/-- Settles O21: neither taking a command nor running it writes the configuration. -/
theorem configurationNeverChanges : Obligations.ConfigurationNeverChanges := by
  intro s t h
  refine h.induct_on_commands (P := fun a => a.cfg = s.cfg) rfl (fun _ _ ha => ha)
    (fun a p ts rest ha => (taken_cfg a p ts rest).trans ha) (fun a b ha hb => ?_) fun i a b ha hb => ?_
  · obtain ⟨⟨⟨hcfg, _⟩, _⟩, _⟩ := raiseIllegal_next hb
    exact hcfg.trans ha
  · exact (exec_samePorts hb).1.trans ha

/-! ### The sticky flag -/

/-- An answer `OK` is no answer `ILLEGAL` (R104). -/
theorem not_responds_illegal {s t : State} {p : Port} {v w : Word} (h : s.Responds t p .ok v) :
    ¬ s.Responds t p .illegal w :=
  fun hill => nomatch (responds_ack_unique hill h).1

theorem raiseIllegal_sets_cmdError {s t : State} (h : raiseIllegal s = .next t) : t.cmdError = true := by
  obtain ⟨⟨_, _, _, _, _, hflag⟩, _⟩ := raiseIllegal_next h
  exact hflag

/-- The flag after a command: set by an Illegal one, kept by every other (R44). -/
theorem exec_cmdError {i : Instr} {s t : State} (h : exec i s = .next t) :
    (s.Responds t s.port .illegal 0 ∧ t.cmdError = true) ∨
      ((∃ v, s.Responds t s.port .ok v) ∧ t.cmdError = s.cmdError) := by
  rcases exec_cases h with hill | ⟨_, u, v, hl, rfl⟩
  · exact .inl ⟨(raiseIllegal_next hill).2, raiseIllegal_sets_cmdError hill⟩
  · exact .inr ⟨⟨v, hl.responds⟩, (respond_cmdError u .ok v).trans hl.keeps_cmdError⟩

/-- Settles O13: an Illegal command sets the flag, every other keeps it, so that no run clears it. -/
theorem commandErrorIsSticky : Obligations.CommandErrorIsSticky := by
  refine ⟨fun i s t h => ?_, fun s t h hs => ?_⟩
  · rcases exec_cmdError h with ⟨hill, hset⟩ | ⟨⟨_, hok⟩, hkept⟩
    · exact ⟨fun _ => hset, fun hno => absurd hill hno⟩
    · exact ⟨fun hill => absurd hill (not_responds_illegal hok), fun _ => hkept⟩
  · refine h.induct_on_commands (P := fun a => a.cmdError = true) hs (fun _ _ ha => ha)
      (fun a p ts rest ha => (taken_cmdError a p ts rest).trans ha)
      (fun a b _ hb => raiseIllegal_sets_cmdError hb) fun i a b ha hb => ?_
    rcases exec_cmdError hb with ⟨_, hset⟩ | ⟨_, hkept⟩
    · exact hset
    · exact hkept.trans ha

/-! ### The error counter -/

/-- The results that count an error: a failed decode and an invalid frame (R43). -/
def CountsError (i : Instr) (v : Word) : Prop := i.mnemonic ∈ ["KISS.DECODE", "HW4.BYTE"] ∧ v = 2

/-- The error counter after a legal effect: one more for a counted result, else kept (R43). -/
theorem LegalEffect.crcErrorCount_cases {s u : State} {i : Instr} {v : Word} (h : LegalEffect s i u v) :
    (CountsError i v ∧ u.crcErrorCount = s.crcErrorCount + 1) ∨
      (¬ CountsError i v ∧ u.crcErrorCount = s.crcErrorCount) := by
  cases h <;> simp [CountsError, Instr.mnemonic]

/-- Settles O14: an Illegal command answers no OK and keeps the counter; a legal one answers its own value alone,
and whether it counts is `LegalEffect.crcErrorCount_cases`. -/
theorem errorCounterCountsFailures : Obligations.ErrorCounterCountsFailures := by
  intro i s t h
  rcases exec_cases h with hill | ⟨_, u, v, hl, rfl⟩
  · obtain ⟨⟨_, _, _, _, hcount, _⟩, hresp⟩ := raiseIllegal_next hill
    exact ⟨fun ⟨_, hok⟩ => absurd hok (not_responds_ok hresp), fun _ => hcount⟩
  · have hcounts : i.mnemonic ∈ ["KISS.DECODE", "HW4.BYTE"] ∧ (2 : Word) = v ↔ CountsError i v := by
      rw [CountsError, eq_comm (a := v)]
    rw [hl.responds_ok_iff, hcounts, respond_crcErrorCount]
    rcases hl.crcErrorCount_cases with ⟨hc, hu⟩ | ⟨hc, hu⟩
    · exact ⟨fun _ => by rw [hu, BitVec.toNat_add]; rfl, fun hno => absurd hc hno⟩
    · exact ⟨fun hyes => absurd hyes hc, fun _ => hu⟩

/-! ### Who writes which item of state -/

/-- The fields of a record that only a decode writes: all but the age (R36, R49). -/
abbrev KissRecord.decoded (r : KissRecord) : BitVec 16 × BitVec 32 × BitVec 32 × BitVec 32 × BitVec 32 :=
  (r.temperature, r.voltageCenti, r.currentCenti, r.consumptionMah, r.rpmErpmUnits)

/-- A new age in a slot keeps the decoded fields of every record (R146). -/
theorem decoded_setRecord_age (s : State) (m : Byte) (age : Byte) :
    (s.setRecord m { s.record m with age := age }).recs.map KissRecord.decoded = s.recs.map KissRecord.decoded := by
  refine List.ext_getElem? fun k => ?_
  rw [setRecord_recs, List.map_set, List.getElem?_set]
  split
  case isFalse => rfl
  case isTrue hk =>
    subst hk
    split
    case isTrue hlt =>
      rw [List.length_map] at hlt
      simp [State.record, hlt]
    case isFalse hge => simpa using hge

/-- Each item of state but `cmdError` is kept from `s` to `u` by every command that R49 does not list as its writer. -/
abbrev WritesAsListed (i : Instr) (s u : State) : Prop :=
  (i.mnemonic ≠ "KISS.RX" → u.kissBuf = s.kissBuf) ∧
  (i.mnemonic ∉ ["KISS.ARM", "KISS.RX"] → u.kissPos = s.kissPos) ∧
  (i.mnemonic ≠ "KISS.ARM" → u.kissMotor = s.kissMotor) ∧
  (i.mnemonic ∉ ["KISS.DECODE", "KISS.AGE"] → u.recs = s.recs) ∧
  (i.mnemonic ≠ "KISS.DECODE" → u.recs.map KissRecord.decoded = s.recs.map KissRecord.decoded) ∧
  (i.mnemonic ∉ ["KISS.DECODE", "KISS.AGE", "KISS.TAKEDIRTY"] → u.dirty = s.dirty) ∧
  (i.mnemonic ≠ "HW4.BYTE" → s.SameHw4 u) ∧
  (i.mnemonic ∉ ["KISS.DECODE", "HW4.BYTE"] → u.crcErrorCount = s.crcErrorCount) ∧
  (i.mnemonic ∉ ["FILT.INIT", "FILT.APPLY"] → u.filt = s.filt)

/-- A legal effect writes an item of state only where R49 lists its command as a writer. -/
theorem LegalEffect.writesAsListed {s u : State} {i : Instr} {v : Word} (h : LegalEffect s i u v) :
    WritesAsListed i s u := by
  cases h with
  | kissAge m hm =>
    have hdecoded := decoded_setRecord_age s m (bumpAge s.cfg.ageInvalid (s.record m).age)
    simpa [WritesAsListed, Instr.mnemonic, State.SameHw4] using hdecoded
  | _ => simp [WritesAsListed, Instr.mnemonic, State.SameHw4]

/-- So does a command, Illegal or not (R49, R251). -/
theorem exec_writesAsListed {i : Instr} {s t : State} (h : exec i s = .next t) : WritesAsListed i s t := by
  rcases exec_cases h with hill | ⟨_, u, v, hl, rfl⟩
  · obtain ⟨⟨_, ⟨hbuf, hpos, hmotor, hrecs, hdirty⟩, hhw4, ⟨hfilt, _⟩, hcount, _⟩, _⟩ := raiseIllegal_next hill
    exact ⟨fun _ => hbuf, fun _ => hpos, fun _ => hmotor, fun _ => hrecs, fun _ => by rw [hrecs], fun _ => hdirty,
      fun _ => hhw4, fun _ => hcount, fun _ => hfilt⟩
  · simpa [WritesAsListed, State.SameHw4] using hl.writesAsListed

/-- Settles O16: the listed writers, beside the ports that no command writes and the flag that no OK answer sets. -/
theorem onlyListedCommandsWrite : Obligations.OnlyListedCommandsWrite := by
  intro i s t h
  obtain ⟨hbuf, hpos, hmotor, hrecs, hdecoded, hdirty, hhw4, hcount, hfilt⟩ := exec_writesAsListed h
  refine ⟨exec_samePorts h, hbuf, hpos, hmotor, hrecs, hdecoded, hdirty, hhw4, hcount, fun ⟨_, hok⟩ => ?_, hfilt⟩
  rcases exec_cmdError h with ⟨hill, _⟩ | ⟨_, hkept⟩
  · exact absurd hok (not_responds_ok hill)
  · exact hkept

/-! ### The two agents -/

/-- A legal effect of the HOST keeps the buffer and keeps or resets the position (R82). -/
theorem LegalEffect.host_kissBuf {s u : State} {i : Instr} {v : Word} (h : LegalEffect s i u v)
    (hi : i.port = .host) : u.kissBuf = s.kissBuf ∧ (u.kissPos = s.kissPos ∨ u.kissPos = 0) := by
  cases h with
  | kissRxCapture | kissRxDrop => nomatch hi
  | _ => simp

/-- A legal effect of KRX is a capture or a drop: it writes the buffer and counts the position up, no other unit
(R82). -/
theorem LegalEffect.receive_frame {s u : State} {i : Instr} {v : Word} (h : LegalEffect s i u v)
    (hi : i.port = .receive) :
    (u.kissPos = s.kissPos ∨ u.kissPos = s.kissPos + 1) ∧ u.kissMotor = s.kissMotor ∧ u.recs = s.recs ∧
      u.dirty = s.dirty ∧ s.SameHw4 u ∧ s.SameFilters u ∧ u.crcErrorCount = s.crcErrorCount := by
  cases h with
  | kissRxCapture | kissRxDrop => simp [State.SameHw4, State.SameFilters]
  | _ => nomatch hi

/-- Settles O18: a legal command is of its port's agent, and an Illegal one writes nothing of the units. -/
theorem onlyKrxCapturesAndOnlyHostResets : Obligations.OnlyKrxCapturesAndOnlyHostResets := by
  intro i s t h
  rcases exec_cases h with hill | ⟨⟨hport, _⟩, u, v, hl, rfl⟩
  · obtain ⟨⟨_, ⟨hbuf, hpos, hmotor, hrecs, hdirty⟩, hhw4, hfilt, hcount, _⟩, _⟩ := raiseIllegal_next hill
    exact ⟨fun _ => ⟨hbuf, .inl hpos⟩, fun _ => ⟨.inl hpos, hmotor, hrecs, hdirty, hhw4, hfilt, hcount⟩⟩
  · rw [hport]
    refine ⟨fun hi => ?_, fun hi => ?_⟩
    · simpa using hl.host_kissBuf hi
    · simpa [State.SameHw4, State.SameFilters] using hl.receive_frame hi

/-! ### The inactive protocol -/

/-- A legal effect keeps the units whose protocol it does not need (R252, 3). -/
theorem LegalEffect.keeps_other_units {s u : State} {i : Instr} {v : Word} (h : LegalEffect s i u v) :
    (i.neededProto ≠ some .kiss → s.SameKiss u) ∧ (i.neededProto ≠ some .hw4 → s.SameHw4 u) := by
  cases h <;> simp [Instr.neededProto, State.SameKiss, State.SameHw4]

/-- A command writes the KISS unit under `KISS` alone and the HW4 unit under `HW4` alone (R252, 3, D19). -/
theorem exec_keeps_inactive_units {i : Instr} {s t : State} (h : exec i s = .next t) :
    (s.cfg.proto ≠ .kiss → s.SameKiss t) ∧ (s.cfg.proto ≠ .hw4 → s.SameHw4 t) := by
  rcases exec_cases h with hill | ⟨⟨_, hproto⟩, u, v, hl, rfl⟩
  · obtain ⟨⟨_, hkiss, hhw4, _⟩, _⟩ := raiseIllegal_next hill
    exact ⟨fun _ => hkiss, fun _ => hhw4⟩
  · obtain ⟨hkiss, hhw4⟩ := hl.keeps_other_units
    refine ⟨fun hne => ?_, fun hne => ?_⟩
    · simpa [State.SameKiss] using hkiss fun hi => hne (hproto _ hi)
    · simpa [State.SameHw4] using hhw4 fun hi => hne (hproto _ hi)

theorem State.SameKiss.trans {s t u : State} (h : s.SameKiss t) (h' : t.SameKiss u) : s.SameKiss u := by
  obtain ⟨hbuf, hpos, hmotor, hrecs, hdirty⟩ := h
  simpa only [State.SameKiss, hbuf, hpos, hmotor, hrecs, hdirty] using h'

theorem State.SameHw4.trans {s t u : State} (h : s.SameHw4 t) (h' : t.SameHw4 u) : s.SameHw4 u := by
  obtain ⟨hbuf, hread, hskip, hraw⟩ := h
  simpa only [State.SameHw4, hbuf, hread, hskip, hraw] using h'

/-- `t` has the configuration of `s` and the units of `s` whose protocol is not active (R252, 3, D19). -/
def KeepsInactive (s t : State) : Prop :=
  t.cfg = s.cfg ∧ (s.cfg.proto ≠ .kiss → s.SameKiss t) ∧ (s.cfg.proto ≠ .hw4 → s.SameHw4 t)

theorem KeepsInactive.trans {s t u : State} (h : KeepsInactive s t) (h' : KeepsInactive t u) : KeepsInactive s u := by
  obtain ⟨hcfg, hkiss, hhw4⟩ := h
  obtain ⟨hcfg', hkiss', hhw4'⟩ := h'
  rw [hcfg] at hcfg' hkiss' hhw4'
  exact ⟨hcfg', fun hne => (hkiss hne).trans (hkiss' hne), fun hne => (hhw4 hne).trans (hhw4' hne)⟩

/-- Settles O20: every command keeps the units that are not active, and no step changes which those are. -/
theorem inactiveProtocolStateIsFrozen : Obligations.InactiveProtocolStateIsFrozen := by
  intro s t h
  suffices KeepsInactive s t from this.2
  refine h.induct_on_commands (P := KeepsInactive s)
    ⟨rfl, fun _ => ⟨rfl, rfl, rfl, rfl, rfl⟩, fun _ => ⟨rfl, rfl, rfl, rfl⟩⟩ (fun _ _ ha => ha)
    (fun a p ts rest ha => ?_) (fun a b ha hb => ?_) fun i a b ha hb => ?_
  · exact ha.trans ⟨by simp, by simp [State.SameKiss], by simp [State.SameHw4]⟩
  · obtain ⟨⟨⟨hcfg, _⟩, hkiss, hhw4, _⟩, _⟩ := raiseIllegal_next hb
    exact ha.trans ⟨hcfg, fun _ => hkiss, fun _ => hhw4⟩
  · exact ha.trans ⟨(exec_samePorts hb).1, exec_keeps_inactive_units hb⟩

/-! ### Reads and repeated decodes -/

/-- The seven read commands (R79). -/
abbrev readMnemonics : List String :=
  ["KISS.READ", "KISS.STAT", "HW4.READ", "HW4.STAT", "FILT.READ", "CMN.CRCERR", "CMN.ERR"]

/-- A legal read leaves the state as it is, and has the same effect and value in every state of the same block (R79). -/
theorem LegalEffect.read_again {s u : State} {i : Instr} {v : Word} (h : LegalEffect s i u v)
    (hi : i.mnemonic ∈ readMnemonics) : u = s ∧ ∀ a w, LegalEffect (s.respond a w) i (s.respond a w) v := by
  cases h with
  | kissRead m f v hm hf => exact ⟨rfl, fun a w => .kissRead m f v (by simpa) (by simpa [State.record] using hf)⟩
  | kissStat => exact ⟨rfl, fun a w => by simpa using LegalEffect.kissStat (s := s.respond a w)⟩
  | hw4Read f v hf => exact ⟨rfl, fun a w => .hw4Read f v (by simpa using hf)⟩
  | hw4Stat => exact ⟨rfl, fun a w => by simpa using LegalEffect.hw4Stat (s := s.respond a w)⟩
  | cmnCrcErr => exact ⟨rfl, fun a w => by simpa using LegalEffect.cmnCrcErr (s := s.respond a w)⟩
  | cmnErr => exact ⟨rfl, fun a w => by simpa using LegalEffect.cmnErr (s := s.respond a w)⟩
  | filtRead m f v hm hf => exact ⟨rfl, fun a w => .filtRead m f v (by simpa) (by simpa [State.filter] using hf)⟩
  | _ => exact absurd hi (by simp [Instr.mnemonic])

/-- The checks of a command pass again after a response (R252). -/
theorem PassesGate.respond {i : Instr} {s : State} (h : PassesGate i s) (a : Ack) (v : Word) :
    PassesGate i (s.respond a v) := by
  simpa [PassesGate] using h

/-- Settles O17: a legal read answers from the state it leaves as it was, so it answers the same again. -/
theorem readsChangeNothing : Obligations.ReadsChangeNothing := by
  intro i s t v hi h hok
  rcases exec_cases h with hill | ⟨hpass, u, w, hl, rfl⟩
  · exact absurd hok (not_responds_ok (raiseIllegal_next hill).2)
  · obtain rfl : v = w := hl.responds_ok_iff.mp hok
    obtain ⟨rfl, hagain⟩ := hl.read_again hi
    obtain ⟨t, ht, _, hresp⟩ := (hagain .ok v).completes (hpass.respond .ok v)
    exact ⟨sameBlock_respond u .ok v, t, ht, hresp⟩

/-- Decoding a complete frame a second time writes the same record to the same slot (R287). -/
theorem decode_complete_again (s : State) :
    ((s.setRecord s.kissMotor (kissFields s.kissBuf)).setDirty.respond .ok 1) =
      (((s.setRecord s.kissMotor (kissFields s.kissBuf)).setDirty.respond .ok 1).setRecord s.kissMotor
        (kissFields s.kissBuf)).setDirty := by
  cases hp : s.port <;> simp [State.respond, State.setRecord, State.setDirty, hp]

/-- Settles O36: a decode writes neither the buffer nor the position, so a second one has the same of the three
legal effects; that of a complete frame writes what is there already. -/
theorem repeatedDecodeRepeatsItsEffect : Obligations.RepeatedDecodeRepeatsItsEffect := by
  intro s t h
  rcases exec_cases h with hill | ⟨hpass, u, v, hl, rfl⟩
  · have hno (v : Word) : ¬ s.Responds t s.port .ok v := not_responds_ok (raiseIllegal_next hill).2
    exact ⟨fun hok => absurd hok (hno 0), fun hok => absurd hok (hno 1), fun hok => absurd hok (hno 2)⟩
  · simp only [hl.responds_ok_iff]
    cases hl with
    | kissDecodeIncomplete hp =>
      refine ⟨fun _ => ?_, fun hv => absurd hv (by decide), fun hv => absurd hv (by decide)⟩
      exact (LegalEffect.kissDecodeIncomplete (by simpa using hp)).completes (hpass.respond .ok 0)
    | kissDecodeComplete hp hc =>
      refine ⟨fun hv => absurd hv (by decide), fun _ => ?_, fun hv => absurd hv (by decide)⟩
      have hagain := (LegalEffect.kissDecodeComplete
        (s := (s.setRecord s.kissMotor (kissFields s.kissBuf)).setDirty.respond .ok 1) (by simpa using hp)
        (by simpa using hc)).completes
          (PassesGate.respond (s := (s.setRecord s.kissMotor (kissFields s.kissBuf)).setDirty) hpass .ok 1)
      simp only [respond_kissMotor, respond_kissBuf, setDirty_kissMotor, setDirty_kissBuf, setRecord_kissMotor,
        setRecord_kissBuf, ← decode_complete_again] at hagain
      exact hagain
    | kissDecodeBadCrc hp hc =>
      refine ⟨fun hv => absurd hv (by decide), fun hv => absurd hv (by decide), fun _ => ?_⟩
      exact (LegalEffect.kissDecodeBadCrc (s := s.countError.respond .ok 2) (by simpa using hp)
        (by simpa using hc)).completes (PassesGate.respond (s := s.countError) hpass .ok 2)

end Sys2Proof.Machine
end

section
/-! PROOF. The CRC-8 (R140, R145): its vectors, its linearity, the self-validation of a checked payload (W1), and
the polynomial remainder it computes. -/
namespace Sys2Proof.Machine

/-- Settles O32, by evaluation. -/
theorem crcVectors : Obligations.CrcVectors := by
  unfold Obligations.CrcVectors
  decide +kernel

/-! ### Linearity -/

/-- One round is linear: the shift is, and the polynomial is added where the bit shifted out is set (R140, R145). -/
theorem crcShift_xor (x y : Byte) : crcShift (x ^^^ y) = crcShift x ^^^ crcShift y := by
  simp only [crcShift, BitVec.getLsbD_xor, BitVec.shiftLeft_xor_distrib]
  cases x.getLsbD 7 <;> cases y.getLsbD 7
  · rfl
  · simp [BitVec.xor_assoc]
  · simp [BitVec.xor_assoc, BitVec.xor_comm kissCrcPoly]
  · have hcancel : ∀ a b p : Byte, a ^^^ b = a ^^^ p ^^^ (b ^^^ p) := fun a b p => by
      rw [BitVec.xor_comm b p, ← BitVec.xor_assoc, BitVec.xor_assoc a p p, BitVec.xor_self, BitVec.xor_zero]
    simpa using hcancel (x <<< 1) (y <<< 1) kissCrcPoly

theorem crcShift8_xor (x y : Byte) : crcShift8 (x ^^^ y) = crcShift8 x ^^^ crcShift8 y := by
  simp [crcShift8, crcShift_xor]

/-- The running CRC is linear in the CRC and the byte together (R145). -/
theorem crcStep_xor (c c' b b' : Byte) : crcStep (c ^^^ c') (b ^^^ b') = crcStep c b ^^^ crcStep c' b' := by
  rw [crcStep, crcStep, crcStep, ← crcShift8_xor]
  congr 1
  ac_rfl

/-- So is the running CRC after several bytes, from any two seeds. -/
theorem foldl_crcStep_xor {a b : List Byte} (h : a.length = b.length) (c c' : Byte) :
    (List.zipWith (· ^^^ ·) a b).foldl crcStep (c ^^^ c') = a.foldl crcStep c ^^^ b.foldl crcStep c' := by
  induction a generalizing b c c' with
  | nil =>
    obtain rfl := List.length_eq_zero_iff.mp h.symm
    rfl
  | cons x a ih =>
    cases b with
    | nil => nomatch h
    | cons y b =>
      rw [List.zipWith_cons_cons, List.foldl_cons, crcStep_xor]
      exact ih (Nat.succ.inj h) (crcStep c x) (crcStep c' y)

/-- Settles O34, from the two zero seeds, whose sum is the seed. -/
theorem crcIsLinear : Obligations.CrcIsLinear :=
  fun _ _ h => foldl_crcStep_xor h kissCrcSeed kissCrcSeed

/-- Settles O37: a byte that equals the running CRC leaves 0 to be shifted. -/
theorem checkByteSelfValidates : Obligations.CheckByteSelfValidates := by
  intro payload
  rw [crc8_append_singleton, crcStep, BitVec.xor_self]
  rfl

/-! ### The polynomial of a byte -/

open Polynomial

/-- The polynomial over GF(2) whose coefficients are the bits of a byte (R145). -/
noncomputable def bytePoly (b : Byte) : (ZMod 2)[X] := ∑ i ∈ Finset.range 8, if b.getLsbD i then X ^ i else 0

/-- The generator x^8 + x^2 + x + 1 (R140). -/
noncomputable def crcGenerator : (ZMod 2)[X] := X ^ 8 + X ^ 2 + X + 1

/-- The coefficients of the polynomial of a byte are its bits. -/
theorem coeff_bytePoly (b : Byte) (n : Nat) : (bytePoly b).coeff n = if b.getLsbD n then 1 else 0 := by
  have hterm (i : Nat) : (if b.getLsbD i then X ^ i else 0 : (ZMod 2)[X]).coeff n =
      if n = i then (if b.getLsbD n then 1 else 0) else 0 := by
    by_cases h : n = i
    · subst h
      cases b.getLsbD n <;> simp
    · cases b.getLsbD i <;> simp [coeff_X_pow, h]
  rw [bytePoly, finsetSum_coeff, Finset.sum_congr rfl fun i _ => hterm i, Finset.sum_ite_eq]
  by_cases h : n < 8
  · simp [h]
  · simp [h, BitVec.getLsbD_of_ge b n (Nat.le_of_not_lt h)]

/-- Exclusive or of bytes is the sum of their polynomials (R145). -/
theorem bytePoly_xor (x y : Byte) : bytePoly (x ^^^ y) = bytePoly x + bytePoly y := by
  ext n
  rw [coeff_add, coeff_bytePoly, coeff_bytePoly, coeff_bytePoly, BitVec.getLsbD_xor]
  cases x.getLsbD n <;> cases y.getLsbD n
  · rfl
  · rfl
  · rfl
  · exact (CharTwo.add_self_eq_zero (1 : ZMod 2)).symm

theorem degree_bytePoly_lt (b : Byte) : (bytePoly b).degree < 8 := by
  refine (degree_lt_iff_coeff_zero _ 8).mpr fun n hn => ?_
  rw [coeff_bytePoly, BitVec.getLsbD_of_ge b n hn]
  rfl

theorem bytePoly_crcPoly : bytePoly kissCrcPoly = X ^ 2 + X + 1 := by
  simp [bytePoly, kissCrcPoly, Finset.sum_range_succ]
  ring

/-- The bits of a byte moved up, with bit 7 carried to the coefficient of x^8. -/
theorem X_mul_bytePoly (v : Byte) :
    X * bytePoly v = bytePoly (v <<< 1) + if v.getLsbD 7 then X ^ 8 else 0 := by
  ext n
  have hcarry : (if v.getLsbD 7 then X ^ 8 else 0 : (ZMod 2)[X]).coeff n =
      if n = 8 ∧ v.getLsbD 7 then 1 else 0 := by
    cases v.getLsbD 7 <;> simp [coeff_X_pow]
  rw [coeff_add, coeff_bytePoly, hcarry]
  cases n with
  | zero => simp
  | succ n =>
    rw [coeff_X_mul, coeff_bytePoly, BitVec.getLsbD_shiftLeft]
    rcases Nat.lt_trichotomy n 7 with h | rfl | h
    · simp [h.ne, Nat.succ_lt_succ h]
    · simp
    · simp [h.ne', BitVec.getLsbD_of_ge v n h]

theorem crcGenerator_monic : crcGenerator.Monic := by
  unfold crcGenerator
  monicity!

theorem degree_crcGenerator : crcGenerator.degree = 8 := by
  unfold crcGenerator
  compute_degree!

/-- One round multiplies by x modulo the generator: the polynomial added stands for the bit shifted out
(R140, R145). -/
theorem crcGenerator_dvd_crcShift (v : Byte) : crcGenerator ∣ X * bytePoly v - bytePoly (crcShift v) := by
  rw [X_mul_bytePoly, crcShift]
  cases v.getLsbD 7
  · simp
  · refine ⟨1, ?_⟩
    simp only [if_true, bytePoly_xor, bytePoly_crcPoly, crcGenerator]
    rw [CharTwo.sub_eq_add]
    have := CharTwo.add_self_eq_zero (bytePoly (v <<< 1))
    linear_combination this

/-- Eight rounds multiply by x^8 (R140). -/
theorem crcGenerator_dvd_iterate (n : Nat) (v : Byte) :
    crcGenerator ∣ X ^ n * bytePoly v - bytePoly (crcShift^[n] v) := by
  induction n generalizing v with
  | zero => simp
  | succ n ih =>
    have hstep := (crcGenerator_dvd_crcShift v).mul_left (X ^ n)
    have hrest := ih (crcShift v)
    rw [Function.iterate_succ_apply]
    convert hstep.add hrest using 1
    ring

/-- The message polynomial: the bytes' bits, the first byte most significant (R145). -/
noncomputable def messagePoly (bytes : List Byte) : (ZMod 2)[X] :=
  bytes.foldl (fun p b => p * X ^ 8 + bytePoly b) 0

/-- The CRC of a message is congruent to the message times x^8, by induction on its last byte (R145). -/
theorem crcGenerator_dvd_message (bytes : List Byte) :
    crcGenerator ∣ messagePoly bytes * X ^ 8 - bytePoly (crc8 bytes) := by
  induction bytes using List.reverseRecOn with
  | nil => simp [messagePoly, bytePoly]
  | append_singleton bytes b ih =>
    have hmessage : messagePoly (bytes ++ [b]) = messagePoly bytes * X ^ 8 + bytePoly b := by simp [messagePoly]
    have hround := crcGenerator_dvd_iterate 8 (b ^^^ crc8 bytes)
    rw [bytePoly_xor] at hround
    rw [hmessage, crc8_append_singleton, crcStep, crcShift8]
    convert (ih.mul_right (X ^ 8)).add hround using 1
    ring

/-- Settles O33: the CRC is congruent to the message times x^8 modulo the generator, and its degree is smaller. -/
theorem crcIsThePolynomialRemainder : Obligations.CrcIsThePolynomialRemainder := by
  intro bytes
  have hself : bytePoly (crc8 bytes) %ₘ crcGenerator = bytePoly (crc8 bytes) :=
    (modByMonic_eq_self_iff crcGenerator_monic).mpr (degree_crcGenerator ▸ degree_bytePoly_lt _)
  exact (modByMonic_eq_of_dvd_sub crcGenerator_monic (crcGenerator_dvd_message bytes)).trans hself

end Sys2Proof.Machine
end

section
/-! PROOF. Lists of KISS commands: the saturating data age (R37), and a frame armed, received and decoded (R142 to
R144, W1). -/
namespace Sys2Proof.Machine

/-! ### The data age -/

/-- One `KISS.AGE` of a slot that is there writes its bumped age and no other record (R146). -/
theorem exec_kissAge {s : State} {m : Byte} {r : KissRecord} (hproto : s.cfg.proto = .kiss)
    (hm : m.toNat < s.cfg.motorCount) (hr : s.recs[m.toNat]? = some r) :
    ∃ t, exec (.kissAge m) { s with port := .host } = .next t ∧ t.cfg = s.cfg ∧
      t.recs = s.recs.set m.toNat { r with age := bumpAge s.cfg.ageInvalid r.age } := by
  obtain ⟨t, ht, ⟨⟨hcfg, _⟩, ⟨_, _, _, hrecs, _⟩, _⟩, _⟩ :=
    kissAge_completes (s := { s with port := .host }) ((passesGate_iff rfl).mpr ⟨rfl, hproto⟩) hm hr
  exact ⟨t, ht, hcfg, hrecs⟩

/-- The age after several `KISS.AGE`, from any slot whose age is within the ceiling (R37). -/
theorem runCommands_kissAge {s : State} {m : Byte} {r : KissRecord} (n : Nat) (hproto : s.cfg.proto = .kiss)
    (hm : m.toNat < s.cfg.motorCount) (hr : s.recs[m.toNat]? = some r)
    (hage : r.age.toNat ≤ s.cfg.ageInvalid.toNat) :
    ∃ t age, runCommands (List.replicate n (.host, .kissAge m)) s = .next t ∧
      t.recs = s.recs.set m.toNat { r with age := age } ∧
      age.toNat = min (r.age.toNat + n) s.cfg.ageInvalid.toNat := by
  induction n generalizing s r with
  | zero =>
    exact ⟨s, r.age, rfl, (congrArg State.recs (setRecord_of_getElem? hr)).symm, (min_eq_left hage).symm⟩
  | succ n ih =>
    have hbump := bumpAge_toNat s.cfg.ageInvalid r.age hage
    have hslot : m.toNat < s.recs.length := (List.getElem?_eq_some_iff.mp hr).1
    obtain ⟨u, hu, hcfg, hrecs⟩ := exec_kissAge hproto hm hr
    have hru : u.recs[m.toNat]? = some { r with age := bumpAge s.cfg.ageInvalid r.age } := by
      rw [hrecs, List.getElem?_set_self hslot]
    obtain ⟨t, age, hrun, hrecs', hval⟩ :=
      ih (by rwa [hcfg]) (by rwa [hcfg]) hru (by rw [hcfg, hbump]; exact min_le_right _ _)
    refine ⟨t, age, by rw [List.replicate_succ, runCommands_cons_next hu, hrun], ?_, ?_⟩
    · rw [hrecs', hrecs, List.set_set]
    · rw [hval, hcfg, hbump]
      omega

/-- Settles O40: the invariants put the age within the ceiling. -/
theorem dataAgeSaturates : Obligations.DataAgeSaturates := by
  intro s m n r hinv hproto hm hr
  obtain ⟨_, _, _, _, hages, _⟩ := hinv
  exact runCommands_kissAge n hproto hm hr (hages r (List.mem_of_getElem? hr))

/-! ### Receiving a frame -/

/-- Writing a byte at the end of what is filled fills one place more. -/
theorem take_succ_set {l : List Byte} {k : Nat} (hk : k < l.length) (b : Byte) :
    (l.set k b).take (k + 1) = l.take k ++ [b] := by
  rw [List.take_add_one, List.take_set_of_le (Nat.le_refl k), List.getElem?_set_self hk]
  rfl

/-- `t` has all of `s` that a received byte leaves and a decode works on (R82, R143). -/
abbrev KeepsUnderRx (s t : State) : Prop :=
  t.cfg = s.cfg ∧ t.kissMotor = s.kissMotor ∧ t.recs = s.recs ∧ t.crcErrorCount = s.crcErrorCount ∧
    t.cmdError = s.cmdError ∧ t.hostOut = s.hostOut

/-- A received byte that fits is written at the position and answered 1 (R143). -/
theorem exec_kissRx_capture {s : State} (b : Byte) (hproto : s.cfg.proto = .kiss) (hroom : s.kissPos.toNat < 10) :
    ∃ t, exec (.kissRx b) { s with port := .receive } = .next t ∧ KeepsUnderRx s t ∧
      t.kissPos.toNat = s.kissPos.toNat + 1 ∧
      t.kissBuf.toList.take t.kissPos.toNat = s.kissBuf.toList.take s.kissPos.toNat ++ [b] ∧
      t.rxOut = s.rxOut ++ [⟨.ok, 1⟩] := by
  have hl : LegalEffect { s with port := .receive } (.kissRx b) _ _ := .kissRxCapture b hroom
  have hsucc : (s.kissPos + 1).toNat = s.kissPos.toNat + 1 := by bv_omega
  refine ⟨_, hl.exec_eq ((passesGate_iff rfl).mpr ⟨rfl, hproto⟩), by simp [KeepsUnderRx, State.respond], ?_, ?_, rfl⟩
  · simpa using hsucc
  · rw [respond_kissPos, respond_kissBuf, hsucc, Vector.toList_setIfInBounds, take_succ_set (by simpa using hroom)]

/-- Received bytes that fit fill the buffer from the position on, each answered 1 (R143). -/
theorem runCommands_kissRx {s : State} (bytes : List Byte) (hproto : s.cfg.proto = .kiss)
    (hfit : s.kissPos.toNat + bytes.length ≤ 10) :
    ∃ t, runCommands (bytes.map fun b => (.receive, .kissRx b)) s = .next t ∧ KeepsUnderRx s t ∧
      t.kissPos.toNat = s.kissPos.toNat + bytes.length ∧
      t.kissBuf.toList.take t.kissPos.toNat = s.kissBuf.toList.take s.kissPos.toNat ++ bytes ∧
      t.rxOut = s.rxOut ++ List.replicate bytes.length ⟨.ok, 1⟩ := by
  induction bytes generalizing s with
  | nil => exact ⟨s, rfl, ⟨rfl, rfl, rfl, rfl, rfl, rfl⟩, rfl, (List.append_nil _).symm, (List.append_nil _).symm⟩
  | cons b bytes ih =>
    rw [List.length_cons] at hfit
    obtain ⟨u, hu, ⟨hcfg, hmotor, hrecs, hcount, hflag, hout⟩, hpos, hbuf, hrx⟩ :=
      exec_kissRx_capture b hproto (by omega)
    obtain ⟨t, ht, ⟨hcfg', hmotor', hrecs', hcount', hflag', hout'⟩, hpos', hbuf', hrx'⟩ :=
      ih (s := u) (by rw [hcfg, hproto]) (by omega)
    refine ⟨t, by rw [List.map_cons, runCommands_cons_next hu, ht], ?_, ?_, ?_, ?_⟩
    · exact ⟨hcfg'.trans hcfg, hmotor'.trans hmotor, hrecs'.trans hrecs, hcount'.trans hcount, hflag'.trans hflag,
        hout'.trans hout⟩
    · rw [hpos', hpos, List.length_cons]
      omega
    · rw [hbuf', hbuf, List.append_assoc, List.singleton_append]
    · rw [hrx', hrx, List.append_assoc, List.length_cons, List.replicate_succ, List.singleton_append]

/-! ### A whole frame -/

/-- A legal arm empties the buffer for its motor (R142). -/
theorem exec_kissArm {s : State} {m : Byte} (hproto : s.cfg.proto = .kiss) (hm : m.toNat < s.cfg.motorCount) :
    exec (.kissArm m) { s with port := .host } =
      .next { s with port := .host, kissPos := 0, kissMotor := m, hostOut := s.hostOut ++ [⟨.ok, 0⟩] } :=
  (LegalEffect.kissArm (s := { s with port := .host }) m hm).exec_eq ((passesGate_iff rfl).mpr ⟨rfl, hproto⟩)

/-- A decode of ten bytes whose last is the CRC of the nine before writes their record to the armed motor (R144). -/
theorem exec_kissDecode_complete {s : State} (hproto : s.cfg.proto = .kiss) (hpos : s.kissPos = 10)
    (hcrc : kissFrameOk s.kissBuf = true) :
    exec .kissDecode { s with port := .host } =
      .next { s with port := .host, recs := s.recs.set s.kissMotor.toNat (kissFields s.kissBuf), dirty := true,
                     hostOut := s.hostOut ++ [⟨.ok, 1⟩] } :=
  (LegalEffect.kissDecodeComplete (s := { s with port := .host }) (not_kissPos_lt_of_complete hpos) hcrc).exec_eq
    ((passesGate_iff rfl).mpr ⟨rfl, hproto⟩)

/-- A payload with its CRC behind it is a frame that decodes (W1). -/
theorem kissFrameOk_push_crc8 (payload : Vector Byte 9) :
    kissFrameOk (payload.push (crc8 payload.toList)) = true := by
  rw [kissFrameOk_iff, Vector.toList_push, List.take_left' payload.length_toList, Vector.getElem_push_eq]

/-- The fields of a payload that is followed by its check byte (R117, R141). -/
theorem kissFields_push (payload : Vector Byte 9) (crc : Byte) :
    kissFields (payload.push crc) =
      { age := 0
        temperature := payload[0].setWidth 16
        voltageCenti := BitVec.ofNat 32 (256 * payload[1].toNat + payload[2].toNat)
        currentCenti := BitVec.ofNat 32 (256 * payload[3].toNat + payload[4].toNat)
        consumptionMah := BitVec.ofNat 32 (256 * payload[5].toNat + payload[6].toNat)
        rpmErpmUnits := BitVec.ofNat 32 (256 * payload[7].toNat + payload[8].toNat) } := by
  simp [kissFields_eq_ofNat]

/-- Settles O38: the arm empties the buffer, the ten bytes fill it, and the decode finds their CRC right. -/
theorem kissFrameRoundTrip : Obligations.KissFrameRoundTrip := by
  intro s m payload _ hproto hm
  obtain ⟨t, hrun, ⟨hcfg, hmotor, hrecs, hcount, hflag, hout⟩, hpos, hbuf, hrx⟩ :=
    runCommands_kissRx
      (s := { s with port := .host, kissPos := 0, kissMotor := m, hostOut := s.hostOut ++ [⟨.ok, 0⟩] })
      (payload.push (crc8 payload.toList)).toList hproto (by simp)
  have hfull : t.kissPos = 10 := BitVec.eq_of_toNat_eq (by simpa using hpos)
  have hframe : t.kissBuf = payload.push (crc8 payload.toList) := by
    rw [hfull] at hbuf
    have hall : t.kissBuf.toList.take 10 = t.kissBuf.toList := List.take_of_length_le (by simp)
    exact Vector.toList_inj.mp (hall.symm.trans hbuf)
  have hdecode := exec_kissDecode_complete (s := t) (by rw [hcfg]; exact hproto) hfull
    (hframe ▸ kissFrameOk_push_crc8 payload)
  have hwhole := (runCommands_cons_next (exec_kissArm hproto hm)).trans
    ((runCommands_append hrun).trans (runCommands_cons_next (rest := []) hdecode))
  refine ⟨_, hwhole, ?recs, hframe, hfull, hmotor, rfl, hcount, hflag, ?out, ?rx⟩
  case recs => rw [hrecs, hmotor, hframe, kissFields_push]
  case out => rw [hout, List.append_assoc, List.singleton_append]
  case rx => simpa using hrx

end Sys2Proof.Machine
end

section
/-! PROOF. Lists of HW4 bytes: the synchroniser's return to idle, aligned streams and signature packets (R186, R187,
W5), and the bounds of the latched fields (R182). -/
namespace Sys2Proof.Machine

/-! ### Latched fields -/

/-- The raw fields of a valid frame are bounded, their high bytes being below their thresholds (R181, R182). -/
theorem hw4Fields_bounded {buf : Vector Byte 19} (h : hw4Valid buf = true) :
    (hw4Fields buf).throttle.toNat < 1024 ∧ (hw4Fields buf).pwm.toNat < 1024 ∧ (hw4Fields buf).rpm.toNat < 262144 ∧
      (hw4Fields buf).voltage.toNat < 3840 ∧ (hw4Fields buf).current.toNat < 3840 ∧
      (hw4Fields buf).tempFet.toNat < 3840 ∧ (hw4Fields buf).tempBec.toNat < 3840 := by
  obtain ⟨⟨h4, h6, h8⟩, h11, h13, h15, h17⟩ := hw4Valid_iff.mp h
  have below (k : Nat) (hk : k < 19) : buf[k].toNat < 256 := buf[k].isLt
  simp only [hw4Fields_eq_ofNat, BitVec.toNat_ofNat]
  refine ⟨?_, ?_, ?_, ?_, ?_, ?_, ?_⟩ <;> refine (Nat.mod_le _ _).trans_lt ?_
  · have := below 5; omega
  · have := below 7; omega
  · have := below 9; have := below 10; omega
  · have := below 12; omega
  · have := below 14; omega
  · have := below 16; omega
  · have := below 18; omega

/-- Settles O44: an answer 1 to `HW4.BYTE` is that of a valid frame, whose fields are latched. -/
theorem latchedFieldsAreBounded : Obligations.LatchedFieldsAreBounded := by
  intro b s t h hok
  rcases exec_cases h with hill | ⟨_, u, v, hl, rfl⟩
  · exact absurd hok (not_responds_ok (raiseIllegal_next hill).2)
  · have hv : 1 = v := hl.responds_ok_iff.mp hok
    rw [respond_hw4Raw]
    cases hl with
    | hw4BytePending => exact absurd hv (by decide)
    | hw4ByteValid _ _ hvalid => exact hw4Fields_bounded hvalid
    | hw4ByteInvalid => exact absurd hv (by decide)

/-! ### Feeding bytes -/

/-- The HOST feeds `bytes` to the HW4 unit in `s`, which answers `rs`, counts `errors` errors and ends in `t`; only an
answer 1 latches fields (R183). -/
structure Fed (s : State) (bytes : List Byte) (t : State) (rs : List Response) (errors : Nat) : Prop where
  run : runCommands (hw4Feed bytes) s = .next t
  cfg : t.cfg = s.cfg
  out : t.hostOut = s.hostOut ++ rs
  count : t.crcErrorCount = s.crcErrorCount + BitVec.ofNat 32 errors
  raw : ⟨.ok, 1⟩ ∉ rs → t.hw4Raw = s.hw4Raw

/-- The answers to `n` bytes that complete no frame (R116). -/
abbrev pendings (n : Nat) : List Response := List.replicate n ⟨.ok, 0⟩

theorem Fed.nil (s : State) : Fed s [] s [] 0 :=
  ⟨rfl, rfl, (List.append_nil _).symm, (BitVec.add_zero _).symm, fun _ => rfl⟩

/-- Feeding two lists one after the other adds up their answers and their errors. -/
theorem Fed.append {s t u : State} {a b : List Byte} {rs qs : List Response} {m n : Nat} (h : Fed s a t rs m)
    (h' : Fed t b u qs n) : Fed s (a ++ b) u (rs ++ qs) (m + n) where
  run := by rw [hw4Feed, List.map_append]; exact (runCommands_append h.run).trans h'.run
  cfg := h'.cfg.trans h.cfg
  out := by rw [h'.out, h.out, List.append_assoc]
  count := by rw [h'.count, h.count, BitVec.ofNat_add, BitVec.add_assoc]
  raw hn := by
    rw [List.mem_append, not_or] at hn
    exact (h'.raw hn.2).trans (h.raw hn.1)

/-- A completed `HW4.BYTE` is one byte fed. -/
theorem Fed.of_completes {s u : State} {b : Byte} {v : Word} {n : Nat}
    (h : Completes (.hw4Byte b) { s with port := .host } u v) (hcfg : u.cfg = s.cfg)
    (hcount : u.crcErrorCount = s.crcErrorCount + BitVec.ofNat 32 n) (hraw : v ≠ 1 → u.hw4Raw = s.hw4Raw) :
    ∃ t, Fed s [b] t [⟨.ok, v⟩] n ∧ u.SameHw4 t := by
  obtain ⟨t, ht, ⟨⟨hcfg', _⟩, _, hhw4, _, hcount', _⟩, hresp, _⟩ := h
  have ⟨_, _, _, hraw'⟩ := hhw4
  exact ⟨t, ⟨runCommands_cons_next ht, hcfg'.trans hcfg, hresp, hcount'.trans hcount,
    fun hn => hraw'.trans (hraw fun hv => hn (by simp [hv]))⟩, hhw4⟩

/-- A byte that completes no frame is answered 0, and leaves the unit as the synchroniser does (R183). -/
theorem fed_pending {s u : State} {b : Byte} (hproto : s.cfg.proto = .hw4)
    (h : hw4Sync b { s with port := .host } = (u, false)) :
    ∃ t, Fed s [b] t [⟨.ok, 0⟩] 0 ∧ t.hw4Buf = u.hw4Buf ∧ t.hw4Read = u.hw4Read ∧ t.hw4Skip = u.hw4Skip := by
  have hpass : PassesGate (.hw4Byte b) { s with port := .host } := (passesGate_iff rfl).mpr ⟨rfl, hproto⟩
  have hc := hw4Byte_completes_pending hpass h
  obtain rfl : (hw4Sync b { s with port := .host }).1 = u := congrArg Prod.fst h
  obtain ⟨t, hfed, hbuf, hread, hskip, _⟩ := Fed.of_completes (n := 0) hc (by simp) (by simp) (by simp)
  exact ⟨t, hfed, hbuf, hread, hskip⟩

/-- What the last byte of a frame is answered (R116, R183). -/
def frameAnswer (buf : Vector Byte 19) : Response := ⟨.ok, if hw4Valid buf then 1 else 2⟩

/-- The errors that the last byte of a frame counts (R43, R183). -/
def frameErrors (buf : Vector Byte 19) : Nat := if hw4Valid buf then 0 else 1

/-- The byte that completes a frame leaves the unit idle with the frame in its buffer (R180, R183). -/
theorem fed_last {s : State} (b : Byte) (hproto : s.cfg.proto = .hw4) (hskip : s.hw4Skip = 0)
    (hread : s.hw4Read.toNat = 18) :
    ∃ t, Fed s [b] t [frameAnswer t.hw4Buf] (frameErrors t.hw4Buf) ∧ t.hw4Skip = 0 ∧ t.hw4Read = 0 ∧
      t.hw4Buf.toList = s.hw4Buf.toList.take 18 ++ [b] := by
  have hlist : (s.hw4Buf.set 18 b).toList = s.hw4Buf.toList.take 18 ++ [b] := by
    rw [Vector.toList_set, ← take_succ_set (by simp), List.take_of_length_le (by simp)]
  have hsync := hw4Sync_of_last (b := b) (s := { s with port := .host }) hskip (BitVec.eq_of_toNat_eq hread)
  have hpass : PassesGate (.hw4Byte b) { s with port := .host } := (passesGate_iff rfl).mpr ⟨rfl, hproto⟩
  simp only [frameAnswer, frameErrors]
  by_cases hv : hw4Valid (s.hw4Buf.set 18 b) = true
  · obtain ⟨t, hfed, hbuf, hread', hskip', _⟩ :=
      Fed.of_completes (n := 0) (hw4Byte_completes_valid hpass hsync hv) rfl (by simp) (by simp)
    have hlast : t.hw4Buf = s.hw4Buf.set 18 b := hbuf
    refine ⟨t, ?_, hskip'.trans hskip, hread', hlast ▸ hlist⟩
    rw [hlast, if_pos hv, if_pos hv]
    exact hfed
  · obtain ⟨t, hfed, hbuf, hread', hskip', _⟩ :=
      Fed.of_completes (n := 1) (hw4Byte_completes_invalid hpass hsync hv) rfl rfl (fun _ => rfl)
    have hlast : t.hw4Buf = s.hw4Buf.set 18 b := hbuf
    refine ⟨t, ?_, hskip'.trans hskip, hread', hlast ▸ hlist⟩
    rw [hlast, if_neg hv, if_neg hv]
    exact hfed

/-- Bytes to discard are discarded, and the rest of the unit is left (R180). -/
theorem fed_skipped {s : State} (bytes : List Byte) (hproto : s.cfg.proto = .hw4)
    (hskip : s.hw4Skip.toNat = bytes.length) :
    ∃ t, Fed s bytes t (pendings bytes.length) 0 ∧ t.hw4Skip = 0 ∧ t.hw4Read = s.hw4Read := by
  induction bytes generalizing s with
  | nil => exact ⟨s, Fed.nil s, BitVec.eq_of_toNat_eq hskip, rfl⟩
  | cons b bytes ih =>
    rw [List.length_cons] at hskip
    have hpos : s.hw4Skip > 0 := by bv_omega
    obtain ⟨u, hu, _, hread, hskip'⟩ :=
      fed_pending hproto (hw4Sync_of_skip (b := b) (s := { s with port := .host }) hpos)
    obtain ⟨t, ht, hskip'', hread'⟩ := ih (s := u) (by rwa [hu.cfg]) (by rw [hskip']; simp only; bv_omega)
    exact ⟨t, hu.append ht, hskip'', hread'.trans hread⟩

/-- Bytes that leave a frame unfinished are appended to it, unless the first of them makes a signature packet
(R180). -/
theorem fed_appended {s : State} (bytes : List Byte) (hproto : s.cfg.proto = .hw4) (hskip : s.hw4Skip = 0)
    (hread : s.hw4Read ≠ 0) (hfit : s.hw4Read.toNat + bytes.length ≤ 18)
    (hsig : s.hw4Read = 1 → bytes.head? ≠ some hw4SyncMarker) :
    ∃ t, Fed s bytes t (pendings bytes.length) 0 ∧ t.hw4Skip = 0 ∧
      t.hw4Read.toNat = s.hw4Read.toNat + bytes.length ∧
      t.hw4Buf.toList.take t.hw4Read.toNat = s.hw4Buf.toList.take s.hw4Read.toNat ++ bytes := by
  induction bytes generalizing s with
  | nil => exact ⟨s, Fed.nil s, hskip, rfl, (List.append_nil _).symm⟩
  | cons b bytes ih =>
    rw [List.length_cons] at hfit
    have hroom : s.hw4Read.toNat < 18 := by omega
    have hsucc : (s.hw4Read + 1).toNat = s.hw4Read.toNat + 1 := by bv_omega
    have hsync := hw4Sync_of_append (b := b) (s := { s with port := .host }) hroom hskip hread
      fun ⟨hone, hb⟩ => hsig hone (congrArg some hb)
    obtain ⟨u, hu, hbuf, hread', hskip'⟩ := fed_pending hproto hsync
    have hnat : u.hw4Read.toNat = s.hw4Read.toNat + 1 := hread' ▸ hsucc
    have hne : s.hw4Read.toNat ≠ 0 := fun h => hread (BitVec.eq_of_toNat_eq h)
    obtain ⟨t, ht, hskip'', hread'', hbuf'⟩ := ih (s := u) (by rwa [hu.cfg]) (hskip'.trans hskip)
      (fun h => by simp [h] at hnat) (by omega) (fun h => by simp [h] at hnat; omega)
    refine ⟨t, hu.append ht, hskip'', by rw [hread'', hnat, List.length_cons]; omega, ?_⟩
    rw [hbuf', hbuf, hnat, Vector.toList_set, take_succ_set (by simp; omega), List.append_assoc,
      List.singleton_append]

/-- The bytes that are missing from a frame complete it, unless the first of them makes a signature packet: the unit
is idle, the frame in its buffer, and the last byte alone reports it (R180, R183). -/
theorem fed_completed {s : State} (bytes : List Byte) (hproto : s.cfg.proto = .hw4) (hskip : s.hw4Skip = 0)
    (hread : s.hw4Read ≠ 0) (hlen : s.hw4Read.toNat + bytes.length = 19) (hrange : s.hw4Read.toNat ≤ 18)
    (hsig : s.hw4Read = 1 → bytes.head? ≠ some hw4SyncMarker) :
    ∃ t, Fed s bytes t (pendings (bytes.length - 1) ++ [frameAnswer t.hw4Buf]) (frameErrors t.hw4Buf) ∧
      t.hw4Skip = 0 ∧ t.hw4Read = 0 ∧ t.hw4Buf.toList = s.hw4Buf.toList.take s.hw4Read.toNat ++ bytes := by
  rcases List.eq_nil_or_concat bytes with rfl | ⟨init, b, rfl⟩
  · rw [List.length_nil] at hlen
    omega
  · rw [List.concat_eq_append] at hlen hsig ⊢
    rw [List.length_append, List.length_singleton] at hlen ⊢
    have hsig' : s.hw4Read = 1 → init.head? ≠ some hw4SyncMarker := fun h hhead =>
      hsig h (by rw [List.head?_append, hhead]; rfl)
    obtain ⟨u, hu, hskip', hread', hbuf⟩ := fed_appended init hproto hskip hread (by omega) hsig'
    have hfull : u.hw4Read.toNat = 18 := by omega
    obtain ⟨t, ht, hskip'', hread'', hbuf'⟩ := fed_last b (by rwa [hu.cfg]) hskip' hfull
    have h := hu.append ht
    rw [Nat.zero_add] at h
    rw [hfull] at hbuf
    exact ⟨t, h, hskip'', hread'', by rw [hbuf', hbuf, List.append_assoc]⟩

/-- A sync byte starts a frame in an idle unit (R180). -/
theorem fed_sync {s : State} (hproto : s.cfg.proto = .hw4) (hskip : s.hw4Skip = 0) (hread : s.hw4Read = 0) :
    ∃ t, Fed s [hw4SyncMarker] t (pendings 1) 0 ∧ t.hw4Skip = 0 ∧ t.hw4Read = 1 ∧
      t.hw4Buf.toList.take 1 = [hw4SyncMarker] := by
  obtain ⟨t, ht, hbuf, hread', hskip'⟩ :=
    fed_pending hproto (hw4Sync_of_sync (b := hw4SyncMarker) (s := { s with port := .host }) hskip hread rfl)
  refine ⟨t, ht, hskip'.trans hskip, hread', ?_⟩
  rw [hbuf, Vector.toList_set, take_succ_set (by simp)]
  rfl

/-- A second sync byte makes a signature packet: the frame is dropped and eleven bytes are to be discarded (R120,
R180). -/
theorem fed_signature {s : State} (hproto : s.cfg.proto = .hw4) (hskip : s.hw4Skip = 0) (hread : s.hw4Read = 1) :
    ∃ t, Fed s [hw4SyncMarker] t (pendings 1) 0 ∧ t.hw4Skip = 11 ∧ t.hw4Read = 0 := by
  obtain ⟨t, ht, _, hread', hskip'⟩ :=
    fed_pending hproto (hw4Sync_of_signature (b := hw4SyncMarker) (s := { s with port := .host }) hskip hread rfl)
  exact ⟨t, ht, hskip', hread'⟩

/-- A signature's second byte and the eleven bytes after it leave the unit idle (R120, R180). -/
theorem fed_signature_skipped {s : State} (skipped : List Byte) (hlen : skipped.length = 11)
    (hproto : s.cfg.proto = .hw4) (hskip : s.hw4Skip = 0) (hread : s.hw4Read = 1) :
    ∃ t, Fed s (hw4SyncMarker :: skipped) t (pendings 12) 0 ∧ t.hw4Skip = 0 ∧ t.hw4Read = 0 := by
  obtain ⟨u, hu, hskip', hread'⟩ := fed_signature hproto hskip hread
  obtain ⟨t, ht, hskip'', hread''⟩ := fed_skipped skipped (by rwa [hu.cfg]) (by rw [hskip', hlen]; rfl)
  rw [hlen] at ht
  exact ⟨t, hu.append ht, hskip'', hread''.trans hread'⟩

/-- A signature packet and the eleven bytes after it leave an idle unit idle (R120, R186). -/
theorem fed_signature_packet {s : State} (skipped : List Byte) (hlen : skipped.length = 11)
    (hproto : s.cfg.proto = .hw4) (hskip : s.hw4Skip = 0) (hread : s.hw4Read = 0) :
    ∃ t, Fed s (hw4SyncMarker :: hw4SyncMarker :: skipped) t (pendings 13) 0 ∧ t.hw4Skip = 0 ∧ t.hw4Read = 0 := by
  obtain ⟨u, hu, hskip', hread', _⟩ := fed_sync hproto hskip hread
  obtain ⟨t, ht, hskip'', hread''⟩ := fed_signature_skipped skipped hlen (by rwa [hu.cfg]) hskip' hread'
  exact ⟨t, hu.append ht, hskip'', hread''⟩

/-- A frame whose second byte is no sync byte is assembled by an idle unit, which is idle again after it (R186). -/
theorem fed_frame {s : State} (payload : List Byte) (hlen : payload.length = 18)
    (hhead : payload.head? ≠ some hw4SyncMarker) (hproto : s.cfg.proto = .hw4) (hskip : s.hw4Skip = 0)
    (hread : s.hw4Read = 0) :
    ∃ t, Fed s (hw4SyncMarker :: payload) t (pendings 18 ++ [frameAnswer t.hw4Buf]) (frameErrors t.hw4Buf) ∧
      t.hw4Skip = 0 ∧ t.hw4Read = 0 ∧ t.hw4Buf.toList = hw4SyncMarker :: payload := by
  obtain ⟨u, hu, hskip', hread', hbuf⟩ := fed_sync hproto hskip hread
  obtain ⟨t, ht, hskip'', hread'', hbuf'⟩ := fed_completed (s := u) payload (by rwa [hu.cfg]) hskip' (by simp [hread'])
    (by simp [hread', hlen]) (by simp [hread']) fun _ => hhead
  rw [hlen] at ht
  rw [hread'] at hbuf'
  have h := hu.append ht
  rw [Nat.zero_add] at h
  exact ⟨t, h, hskip'', hread'', hbuf'.trans (by rw [show (1 : Byte).toNat = 1 from rfl, hbuf]; rfl)⟩

/-! ### Returning to idle -/

/-- A unit that is filling a frame discards nothing (R52, 4). -/
theorem State.Hw4InRange.skip_eq_zero {s : State} (h : s.Hw4InRange) (hread : s.hw4Read ≠ 0) : s.hw4Skip = 0 := by
  obtain ⟨_, _, hexcl⟩ := h
  by_contra hne
  exact hread (hexcl (by bv_omega))

/-- The rest of a frame that is not a signature packet brings the synchroniser back to idle (R186). -/
theorem idle_of_completed {s : State} {bytes : List Byte} (hproto : s.cfg.proto = .hw4) (hrange : s.Hw4InRange)
    (hread : 1 ≤ s.hw4Read.toNat) (hlen : bytes.length = 19 - s.hw4Read.toNat)
    (hsig : s.hw4Read = 1 → bytes.head? ≠ some hw4SyncMarker) :
    ∃ t, runCommands (hw4Feed bytes) s = .next t ∧ t.hw4Read = 0 ∧ t.hw4Skip = 0 := by
  have hne : s.hw4Read ≠ 0 := fun h0 => by simp [h0] at hread
  have ⟨⟨hle, _⟩, _⟩ := hrange
  obtain ⟨t, ht, hskip', hread', _⟩ :=
    fed_completed bytes hproto (hrange.skip_eq_zero hne) hne (by omega) hle hsig
  exact ⟨t, ht.run, hread', hskip'⟩

/-- Settles O45: skipped bytes, a signature packet, or the rest of a frame. -/
theorem synchroniserReturnsToIdle : Obligations.SynchroniserReturnsToIdle := by
  intro s bytes hproto hrange hcase
  have ⟨⟨hreadLe, hskipLe⟩, _, hexcl⟩ := hrange
  rcases hcase with ⟨hpos, hlen⟩ | ⟨hread, hlen, hhead⟩ | ⟨hread, hlen, hhead⟩ | ⟨hread, hlen⟩
  · obtain ⟨t, ht, hskip', hread'⟩ := fed_skipped bytes hproto hlen.symm
    exact ⟨by omega, t, ht.run, hread'.trans (hexcl hpos), hskip'⟩
  · cases bytes with
    | nil => nomatch hhead
    | cons b skipped =>
      obtain rfl : b = hw4SyncMarker := Option.some.inj hhead
      obtain ⟨t, ht, hskip', hread'⟩ := fed_signature_skipped skipped (Nat.succ.inj hlen) hproto
        (hrange.skip_eq_zero (by simp [hread])) hread
      exact ⟨by omega, t, ht.run, hread', hskip'⟩
  · exact ⟨by omega, idle_of_completed hproto hrange (by simp [hread]) (by simp [hread, hlen]) fun _ => hhead⟩
  · exact ⟨by omega, idle_of_completed hproto hrange (by omega) hlen fun h => by simp [h] at hread⟩

/-! ### Frames and signature packets -/

/-- A frame as its sync byte and the bytes after it. -/
theorem toList_eq_sync_cons {f : Vector Byte 19} (hsync : f[0] = 0x9B) :
    ∃ payload, f.toList = hw4SyncMarker :: payload ∧ payload.length = 18 ∧ payload.head? = some f[1] := by
  have hlen : f.toList.length = 19 := f.length_toList
  have h0 : f.toList[0]? = some 0x9B := by simp [hsync]
  have h1 : f.toList[1]? = some f[1] := by simp
  cases hf : f.toList with
  | nil => simp [hf] at hlen
  | cons b payload =>
    rw [hf] at hlen h0 h1
    obtain rfl : b = 0x9B := Option.some.inj h0
    exact ⟨payload, rfl, Nat.succ.inj hlen, List.head?_eq_getElem? ▸ h1⟩

/-- A gap-free stream of frames is assembled frame by frame, each reported and each invalid one counted (R186). -/
theorem fed_frames {s : State} (frames : List (Vector Byte 19)) (hproto : s.cfg.proto = .hw4) (hskip : s.hw4Skip = 0)
    (hread : s.hw4Read = 0) (hframes : ∀ f ∈ frames, f[0] = 0x9B ∧ f[1] ≠ 0x9B) :
    ∃ t, Fed s (frames.flatMap (·.toList)) t (frames.flatMap fun f => pendings 18 ++ [frameAnswer f])
        (frames.countP fun f => !hw4Valid f) ∧ t.hw4Skip = 0 ∧ t.hw4Read = 0 := by
  induction frames generalizing s with
  | nil => exact ⟨s, Fed.nil s, hskip, hread⟩
  | cons f frames ih =>
    obtain ⟨hsync, hmark⟩ := hframes f List.mem_cons_self
    obtain ⟨payload, hf, hlen, hhead⟩ := toList_eq_sync_cons hsync
    obtain ⟨u, hu, hskip', hread', hbuf⟩ :=
      fed_frame payload hlen (by rw [hhead]; exact fun h => hmark (Option.some.inj h)) hproto hskip hread
    rw [← hf] at hu hbuf
    rw [Vector.toList_inj.mp hbuf] at hu
    obtain ⟨t, ht, hskip'', hread''⟩ := ih (s := u) (by rwa [hu.cfg]) hskip' hread' fun g hg =>
      hframes g (List.mem_cons_of_mem _ hg)
    refine ⟨t, ?_, hskip'', hread''⟩
    have herrors : (f :: frames).countP (fun f => !hw4Valid f) =
        frameErrors f + frames.countP fun f => !hw4Valid f := by
      rw [List.countP_cons, Nat.add_comm, frameErrors]
      cases hw4Valid f <;> rfl
    rw [herrors]
    exact hu.append ht

/-- Settles O46, by the stream lemma from an idle unit. -/
theorem alignedStreamReportsEveryFrame : Obligations.AlignedStreamReportsEveryFrame := by
  intro s frames hproto hread hskip hframes
  obtain ⟨t, ht, hskip', hread'⟩ := fed_frames frames hproto hskip hread hframes
  exact ⟨t, ht.run, hread', hskip', ht.out, ht.count⟩

/-- Settles O47: the packet and the skipped bytes leave the unit idle, and the frame after them is assembled. -/
theorem signaturePacketIsSkipped : Obligations.SignaturePacketIsSkipped := by
  intro s skipped payload hproto hread hskip hskipped hpayload hhead
  obtain ⟨u, hu, hskip', hread'⟩ := fed_signature_packet skipped hskipped hproto hskip hread
  obtain ⟨t, ht, hskip'', hread'', hbuf⟩ := fed_frame payload hpayload hhead (by rwa [hu.cfg]) hskip' hread'
  have h := hu.append ht
  refine ⟨t, if hw4Valid t.hw4Buf then 1 else 2, ?_, hbuf, hread'', hskip'', ?_, ?_⟩
  · rw [← h.run]
    simp [hw4SyncMarker]
  · cases hw4Valid t.hw4Buf <;> simp
  · rw [h.out, ← List.append_assoc (pendings 13), List.replicate_append_replicate, ← List.append_assoc]
    rfl

/-- Settles O48: the first two bytes are a signature packet, and the other eleven are those it discards. -/
theorem frameWithMarkerInByteOneIsLost : Obligations.FrameWithMarkerInByteOneIsLost := by
  intro s f hproto hread hskip hsync hmark
  obtain ⟨payload, hf, hlen, hhead⟩ := toList_eq_sync_cons hsync
  cases payload with
  | nil => nomatch hlen
  | cons b skipped =>
    obtain rfl : b = 0x9B := hmark ▸ Option.some.inj hhead
    have hlen' : (skipped.take 11).length = 11 :=
      List.length_take_of_le (by rw [List.length_cons] at hlen; omega)
    obtain ⟨t, ht, hskip', hread'⟩ := fed_signature_packet (skipped.take 11) hlen' hproto hskip hread
    refine ⟨t, ?_, hread', hskip', ht.raw (by simp), ht.count.trans (BitVec.add_zero _), ht.out⟩
    rw [hf]
    exact ht.run

end Sys2Proof.Machine
end

section
/-! PROOF. The kinds of binary32 numbers, and from them the NaN results and the infinities (R210). -/
namespace Sys2Proof.Machine

/-! ### Kinds of numbers -/

theorem f32IsNaN_iff {x : F32} : f32IsNaN x = true ↔ f32Exp x = 255 ∧ f32Frac x ≠ 0 := by simp [f32IsNaN]

theorem f32IsInf_iff {x : F32} : f32IsInf x = true ↔ f32Exp x = 255 ∧ f32Frac x = 0 := by simp [f32IsInf]

theorem f32IsFinite_iff {x : F32} : f32IsFinite x = true ↔ f32Exp x ≠ 255 := by simp [f32IsFinite]

theorem f32IsZero_iff {x : F32} : f32IsZero x = true ↔ f32Exp x = 0 ∧ f32Frac x = 0 := by simp [f32IsZero]

theorem not_isNaN_of_isInf {x : F32} (h : f32IsInf x = true) : f32IsNaN x = false := by
  simp [f32IsNaN, (f32IsInf_iff.mp h).2]

theorem not_isNaN_of_isFinite {x : F32} (h : f32IsFinite x = true) : f32IsNaN x = false := by
  simp [f32IsNaN, f32IsFinite_iff.mp h]

theorem not_isInf_of_isFinite {x : F32} (h : f32IsFinite x = true) : f32IsInf x = false := by
  simp [f32IsInf, f32IsFinite_iff.mp h]

theorem isFinite_of_isZero {x : F32} (h : f32IsZero x = true) : f32IsFinite x = true := by
  simp [f32IsFinite, (f32IsZero_iff.mp h).1]

/-! ### The number with the sign flipped -/

@[simp] theorem f32Exp_neg (x : F32) : f32Exp (f32Neg x) = f32Exp x := by
  have hmask : (0x80000000#32).extractLsb' 23 8 = 0 := rfl
  rw [f32Exp, f32Neg, BitVec.extractLsb'_xor, hmask]
  exact congrArg BitVec.toNat (BitVec.xor_zero)

@[simp] theorem f32Frac_neg (x : F32) : f32Frac (f32Neg x) = f32Frac x := by
  have hmask : (0x80000000#32).extractLsb' 0 23 = 0 := rfl
  rw [f32Frac, f32Neg, BitVec.extractLsb'_xor, hmask]
  exact congrArg BitVec.toNat (BitVec.xor_zero)

@[simp] theorem f32Sign_neg (x : F32) : f32Sign (f32Neg x) = !f32Sign x := by
  rw [f32Sign, f32Neg, BitVec.getLsbD_xor]
  exact Bool.xor_true _

@[simp] theorem f32IsNaN_neg (x : F32) : f32IsNaN (f32Neg x) = f32IsNaN x := by simp [f32IsNaN]
@[simp] theorem f32IsInf_neg (x : F32) : f32IsInf (f32Neg x) = f32IsInf x := by simp [f32IsInf]
@[simp] theorem f32IsFinite_neg (x : F32) : f32IsFinite (f32Neg x) = f32IsFinite x := by simp [f32IsFinite]

/-! ### Drawn NaNs -/

/-- A set quiet bit is a bit of the fraction. -/
theorem f32Frac_ne_zero {x : F32} (h : x.getLsbD 22 = true) : f32Frac x ≠ 0 := by
  intro h0
  have hfrac : x.extractLsb' 0 23 = 0#23 := BitVec.eq_of_toNat_eq h0
  have hbit : x.getLsbD 22 = false := by simpa using congrArg (·.getLsbD 22) hfrac
  exact Bool.false_ne_true (hbit.symm.trans h)

/-- A quiet NaN is one with a full exponent and the quiet bit (log 9). -/
theorem isQuietNaN_iff {q : F32} : f32IsQuietNaN q = true ↔ f32Exp q = 255 ∧ q.getLsbD 22 = true := by
  rw [f32IsQuietNaN, Bool.and_eq_true, f32IsNaN_iff]
  exact ⟨fun ⟨⟨hexp, _⟩, hbit⟩ => ⟨hexp, hbit⟩, fun ⟨hexp, hbit⟩ => ⟨⟨hexp, f32Frac_ne_zero hbit⟩, hbit⟩⟩

/-- A drawn NaN is quiet (R210). -/
theorem isQuietNaN_drawn (d : BitVec 23) : f32IsQuietNaN (f32Drawn d) = true := by
  have hexp : (f32Drawn d).extractLsb' 23 8 = 0xFF#8 :=
    (BitVec.extractLsb'_append_eq_of_le (by decide)).trans
      ((BitVec.extractLsb'_append_eq_of_le (by decide)).trans BitVec.extractLsb'_append_eq_right)
  have hquiet : (f32Drawn d).extractLsb' 22 1 = 1#1 :=
    (BitVec.extractLsb'_append_eq_of_le (by decide)).trans BitVec.extractLsb'_append_eq_right
  exact isQuietNaN_iff.mpr ⟨congrArg BitVec.toNat hexp, by simpa using congrArg (·.getLsbD 0) hquiet⟩

theorem isNaN_drawn (d : BitVec 23) : f32IsNaN (f32Drawn d) = true :=
  (Bool.and_eq_true_iff.mp (isQuietNaN_drawn d)).1

/-- A number is its sign, its exponent, its quiet bit and the 22 bits below it. -/
theorem eq_append_quiet_fields (q : F32) :
    q = q.extractLsb' 31 1 ++ q.extractLsb' 23 8 ++ q.extractLsb' 22 1 ++ q.extractLsb' 0 22 := by
  have top : q.extractLsb' 31 1 ++ q.extractLsb' 23 8 = q.extractLsb' 23 9 :=
    BitVec.extractLsb'_append_extractLsb'_eq_extractLsb' rfl
  have upper : q.extractLsb' 23 9 ++ q.extractLsb' 22 1 = q.extractLsb' 22 10 :=
    BitVec.extractLsb'_append_extractLsb'_eq_extractLsb' rfl
  have whole : q.extractLsb' 22 10 ++ q.extractLsb' 0 22 = q.extractLsb' 0 32 :=
    BitVec.extractLsb'_append_extractLsb'_eq_extractLsb' rfl
  rw [top, upper, whole, BitVec.extractLsb'_eq_self]

/-- Every quiet NaN is drawn, by its sign and payload (R210). -/
theorem exists_drawn {q : F32} (h : f32IsQuietNaN q = true) : ∃ d, f32Drawn d = q := by
  obtain ⟨hexp, hbit⟩ := isQuietNaN_iff.mp h
  have hexp' : q.extractLsb' 23 8 = 0xFF#8 := BitVec.eq_of_toNat_eq hexp
  have hbit' : q.extractLsb' 22 1 = 1#1 := BitVec.eq_of_getElem_eq fun i hi => by
    obtain rfl : i = 0 := by omega
    simp [hbit]
  refine ⟨(q.extractLsb' 31 1 ++ q.extractLsb' 0 22 : BitVec 23), ?_⟩
  have hsign : (q.extractLsb' 31 1 ++ q.extractLsb' 0 22 : BitVec 23).extractLsb' 22 1 = q.extractLsb' 31 1 :=
    BitVec.extractLsb'_append_eq_left
  have hpayload : (q.extractLsb' 31 1 ++ q.extractLsb' 0 22 : BitVec 23).extractLsb' 0 22 = q.extractLsb' 0 22 :=
    BitVec.extractLsb'_append_eq_right
  rw [f32Drawn, hsign, hpayload, ← hexp', ← hbit', ← eq_append_quiet_fields]

/-! ### NaN operands and infinities -/

theorem fadd_nan {d : BitVec 23} {x y : F32} (h : f32IsNaN x = true ∨ f32IsNaN y = true) : fadd d x y = f32Drawn d := by
  simp [fadd, h]

theorem fmul_nan {d : BitVec 23} {x y : F32} (h : f32IsNaN x = true ∨ f32IsNaN y = true) : fmul d x y = f32Drawn d := by
  simp [fmul, h]

theorem fsub_nan {d : BitVec 23} {x y : F32} (h : f32IsNaN x = true ∨ f32IsNaN y = true) : fsub d x y = f32Drawn d :=
  fadd_nan (by simpa using h)

theorem f32Inf_isInf (neg : Bool) : f32IsInf (f32Inf neg) = true ∧ f32Sign (f32Inf neg) = neg := by
  revert neg
  decide

/-- Infinities of opposite signs add to a NaN (log 10). -/
theorem fadd_inf_opposite {d : BitVec 23} {x y : F32} (hx : f32IsInf x = true) (hy : f32IsInf y = true)
    (h : f32Sign x ≠ f32Sign y) : fadd d x y = f32Drawn d := by
  simp [fadd, not_isNaN_of_isInf hx, not_isNaN_of_isInf hy, hx, hy, h]

/-- An infinity and an infinity of its sign or a finite number add to the infinity (log 10). -/
theorem fadd_inf_left {d : BitVec 23} {x y : F32} (hx : f32IsInf x = true) (hy : f32IsNaN y = false)
    (h : f32IsInf y = true → f32Sign x = f32Sign y) : fadd d x y = x := by
  cases hi : f32IsInf y <;> simp_all [fadd, not_isNaN_of_isInf hx]

theorem fadd_inf_right {d : BitVec 23} {x y : F32} (hy : f32IsInf y = true) (hx : f32IsFinite x = true) :
    fadd d x y = y := by
  simp [fadd, not_isNaN_of_isInf hy, not_isNaN_of_isFinite hx, not_isInf_of_isFinite hx, hy]

/-- Zero times an infinity is a NaN (log 10). -/
theorem fmul_inf_zero {d : BitVec 23} {x y : F32} (hx : f32IsInf x = true) (hy : f32IsZero y = true) :
    fmul d x y = f32Drawn d ∧ fmul d y x = f32Drawn d := by
  have hyf := isFinite_of_isZero hy
  simp [fmul, not_isNaN_of_isInf hx, not_isNaN_of_isFinite hyf, not_isInf_of_isFinite hyf, hx, hy]

/-- An infinity times a number that is not zero is the infinity of the product's sign (log 10). -/
theorem fmul_inf {d : BitVec 23} {x y : F32} (hx : f32IsInf x = true) (hyn : f32IsNaN y = false)
    (hyz : f32IsZero y = false) :
    fmul d x y = f32Inf (f32Sign x != f32Sign y) ∧ fmul d y x = f32Inf (f32Sign y != f32Sign x) := by
  have hxz : f32IsZero x = false := by simp [f32IsZero, (f32IsInf_iff.mp hx).1]
  cases hi : f32IsInf y <;> simp [fmul, not_isNaN_of_isInf hx, hyn, hx, hyz, hxz, hi]

/-- Settles O56: the drawn NaNs are the quiet ones, and the infinities go through the branches of the operations. -/
theorem nansAreDrawnAndInfinitiesFollowIeee : Obligations.NaNsAreDrawnAndInfinitiesFollowIeee := by
  refine ⟨isQuietNaN_drawn, fun q => exists_drawn, fun d x y => ⟨fun h => ?nan, fun hx hy hs => ?opposite,
    fun hx hy hs => ?same, fun hx hy => ?finite, fun hx hy => fmul_inf_zero hx hy, fun hx hyn hyz => ?product⟩⟩
  case nan => exact ⟨fadd_nan h, fsub_nan h, fmul_nan h⟩
  case opposite =>
    refine ⟨fadd_inf_opposite hx hy hs, fadd_inf_left hx (by simpa using not_isNaN_of_isInf hy) fun _ => ?_⟩
    rw [f32Sign_neg]
    exact Bool.eq_not_of_ne hs
  case same =>
    exact ⟨fadd_inf_opposite hx (by simpa using hy) (by simp [hs]),
      fadd_inf_left hx (not_isNaN_of_isInf hy) fun _ => hs⟩
  case finite =>
    have hyi := not_isInf_of_isFinite hy
    have hyn := not_isNaN_of_isFinite hy
    have hsub : fsub d y x = f32Neg x := fadd_inf_right (by simpa using hx) hy
    refine ⟨fadd_inf_left hx hyn (by simp [hyi]), fadd_inf_right hx hy,
      fadd_inf_left hx (by simpa using hyn) (by simp [hyi]), ?_, ?_⟩
    · simpa [hsub] using hx
    · rw [hsub, f32Sign_neg]
  case product =>
    obtain ⟨hxy, hyx⟩ := fmul_inf (d := d) hx (Bool.not_eq_true _ ▸ hyn) (Bool.not_eq_true _ ▸ hyz)
    obtain ⟨hinf, hsign⟩ := f32Inf_isInf (f32Sign x != f32Sign y)
    rw [hxy, hyx, bne_comm (a := f32Sign y)]
    exact ⟨hinf, hsign, rfl⟩

end Sys2Proof.Machine
end

section
/-! PROOF. `FILT.APPLY` (R213): its meaning, a filter poisoned by a NaN (R289), and the independence of the filters. -/
namespace Sys2Proof.Machine

/-! ### One sample -/

/-- `FILT.APPLY` of a slot that is there, in terms of the slot's filter (R213). -/
theorem filtApply_legal {s : State} {m : Byte} {f : Biquad} (x : F32) (hm : m.toNat < s.cfg.motorCount)
    (hf : s.filt[m.toNat]? = some f) (hready : f.ready = true) :
    LegalEffect s (.filtApply m x) (s.setFilter m (applyFilter s.draws f x)).useDraws (biquadOut s.draws f x) := by
  have hfilter := filter_of_getElem? s m f hf
  have hl := LegalEffect.filtApply (s := s) m x hm (by rwa [hfilter])
  rwa [hfilter] at hl

/-- `FILT.APPLY` is Illegal on the other port, for an invalid motor and for a filter that is not ready (R213, R252). -/
theorem filtApply_illegal {s : State} {m : Byte} {f : Biquad} (x : F32) (hf : s.filt[m.toNat]? = some f)
    (h : ¬ (s.port = .host ∧ m.toNat < s.cfg.motorCount ∧ f.ready = true)) :
    IllegalOutcome (exec (.filtApply m x) s) s := by
  refine illegalOutcome_of_not_legal fun hpass u v hl => ?_
  have hport := (passesGate_iff_of_none rfl).mp hpass
  cases hl with
  | filtApply _ _ hm hr => exact h ⟨hport, hm, by rwa [filter_of_getElem? s m f hf] at hr⟩

/-- Settles O52: the legal effect of `FILT.APPLY`, its nine draws counted from the state's. -/
theorem filtApplyRunsTheBiquad : Obligations.FiltApplyRunsTheBiquad := by
  refine ⟨fun w a0 x m rest => ?encoding, fun m x s f hf => ⟨fun ⟨hport, hm, hready⟩ => ?legal, filtApply_illegal x hf⟩⟩
  case encoding =>
    exact (decode_with_args_iff (args := [a0]) (row_mem 13) rfl rfl rest).trans (by simp [idxField])
  case legal =>
    exact ⟨fun k => Config.nanDraw (s.draws + k), s.draws + drawsPerApply,
      (filtApply_legal x hm hf hready).completes ((passesGate_iff_of_none rfl).mpr hport)⟩

/-! ### NaN samples -/

/-- A NaN operand makes the result of every operation a NaN (R210). -/
theorem isNaN_fadd {d : BitVec 23} {x y : F32} (h : f32IsNaN x = true ∨ f32IsNaN y = true) :
    f32IsNaN (fadd d x y) = true := by
  rw [fadd_nan h]
  exact isNaN_drawn d

theorem isNaN_fsub {d : BitVec 23} {x y : F32} (h : f32IsNaN x = true ∨ f32IsNaN y = true) :
    f32IsNaN (fsub d x y) = true := by
  rw [fsub_nan h]
  exact isNaN_drawn d

theorem isNaN_fmul {d : BitVec 23} {x y : F32} (h : f32IsNaN x = true ∨ f32IsNaN y = true) :
    f32IsNaN (fmul d x y) = true := by
  rw [fmul_nan h]
  exact isNaN_drawn d

/-- The output is a NaN when the sample or the first delay element is (R213). -/
theorem isNaN_biquadOut {n : Nat} {f : Biquad} {x : F32} (h : f32IsNaN x = true ∨ f32IsNaN f.s1 = true) :
    f32IsNaN (biquadOut n f x) = true :=
  isNaN_fadd (h.imp_left fun hx => isNaN_fmul (.inr hx))

/-- The output and both delay elements of a filter are NaNs (R289). -/
def Biquad.Poisoned (f : Biquad) : Prop := f32IsNaN f.out = true ∧ f32IsNaN f.s1 = true ∧ f32IsNaN f.s2 = true

/-- A NaN output is fed back into both delay elements (R213). -/
theorem poisoned_applyFilter {n : Nat} {f : Biquad} {x : F32} (h : f32IsNaN x = true ∨ f32IsNaN f.s1 = true) :
    (applyFilter n f x).Poisoned := by
  have hout := isNaN_biquadOut (n := n) h
  have hback (d d' : BitVec 23) (a b : F32) : f32IsNaN (fsub d a (fmul d' b (biquadOut n f x))) = true :=
    isNaN_fsub (.inr (isNaN_fmul (.inr hout)))
  exact ⟨hout, isNaN_fadd (.inl (hback _ _ _ _)), hback _ _ _ _⟩

/-- The filter of a valid motor is ready and poisoned (R289). -/
def State.FilterPoisoned (s : State) (m : Byte) : Prop :=
  m.toNat < s.cfg.motorCount ∧ ∃ f, s.filt[m.toNat]? = some f ∧ f.ready = true ∧ f.Poisoned

/-- Writing a ready and poisoned filter to a slot that is there poisons it. -/
theorem State.FilterPoisoned.of_filt_set {s u : State} {m : Byte} {f : Biquad} (hm : m.toNat < s.cfg.motorCount)
    (hslot : m.toNat < s.filt.length) (hready : f.ready = true) (hf : f.Poisoned) (hcfg : u.cfg = s.cfg)
    (hu : u.filt = s.filt.set m.toNat f) : u.FilterPoisoned m :=
  ⟨by rwa [hcfg], f, by rw [hu, List.getElem?_set_self hslot], hready, hf⟩

/-- A legal effect other than that of a `FILT.INIT` of the motor leaves its filter poisoned: a further sample takes
the poisoned delay elements (R213, R289). -/
theorem LegalEffect.keeps_filterPoisoned {s u : State} {i : Instr} {v : Word} {m : Byte} (h : LegalEffect s i u v)
    (hs : s.FilterPoisoned m) (hi : ∀ cutoff looptime, i ≠ .filtInit m cutoff looptime) : u.FilterPoisoned m := by
  have ⟨hm, f, hf, hready, hpoison⟩ := hs
  have ⟨_, hs1, _⟩ := hpoison
  have hslot : m.toNat < s.filt.length := (List.getElem?_eq_some_iff.mp hf).1
  cases h with
  | filtInit k c t =>
    have hne : k.toNat ≠ m.toNat := fun he => hi c t (by rw [BitVec.eq_of_toNat_eq he])
    exact ⟨hm, f, by simpa [List.getElem?_set_ne hne] using hf, hready, hpoison⟩
  | filtApply k x _ hr =>
    by_cases he : k = m
    · subst he
      have hfilter := filter_of_getElem? s k f hf
      have hs1' : f32IsNaN (s.filter k).s1 = true := hfilter ▸ hs1
      exact .of_filt_set hm hslot (f := applyFilter s.draws (s.filter k) x) (by simpa using hr)
        (poisoned_applyFilter (.inr hs1')) (by simp) (by simp)
    · have hne : k.toNat ≠ m.toNat := fun h => he (BitVec.eq_of_toNat_eq h)
      exact ⟨hm, f, by simpa [List.getElem?_set_ne hne] using hf, hready, hpoison⟩
  | hw4BytePending b | hw4ByteValid b | hw4ByteInvalid b => exact ⟨by simpa, f, by simpa using hf, hready, hpoison⟩
  | _ => exact hs

/-- So does every command, Illegal or not. -/
theorem exec_keeps_filterPoisoned {s t : State} {i : Instr} {m : Byte} (h : exec i s = .next t)
    (hs : s.FilterPoisoned m) (hi : ∀ cutoff looptime, i ≠ .filtInit m cutoff looptime) : t.FilterPoisoned m := by
  rcases exec_cases h with hill | ⟨_, u, v, hl, rfl⟩
  · obtain ⟨⟨⟨hcfg, _⟩, _, _, ⟨hfilt, _⟩, _⟩, _⟩ := raiseIllegal_next hill
    simpa [State.FilterPoisoned, hcfg, hfilt] using hs
  · simpa [State.FilterPoisoned] using hl.keeps_filterPoisoned hs hi

/-! ### Responses of a list of commands -/

/-- A command adds to the responses of the HOST, and takes none away (R104). -/
theorem exec_extends_hostOut {i : Instr} {s t : State} (h : exec i s = .next t) : s.hostOut <+: t.hostOut := by
  obtain ⟨a, v, hown, hother⟩ : ∃ a v, s.Responds t s.port a v := by
    rcases exec_cmdError h with ⟨hill, _⟩ | ⟨⟨v, hok⟩, _⟩
    · exact ⟨_, _, hill⟩
    · exact ⟨_, v, hok⟩
  cases hp : s.port with
  | host =>
    rw [hp] at hown
    exact ⟨[⟨a, v⟩], hown.symm⟩
  | receive =>
    rw [hp] at hother
    exact ⟨[], (List.append_nil _).trans hother.symm⟩

/-- Every list of commands runs to its end (R250). -/
theorem runCommands_answers (cmds : List (Port × Instr)) (s : State) : ∃ t, runCommands cmds s = .next t := by
  induction cmds generalizing s with
  | nil => exact ⟨s, rfl⟩
  | cons c cmds ih =>
    obtain ⟨p, i⟩ := c
    obtain ⟨u, hu⟩ := exec_answers i { s with port := p }
    rw [runCommands_cons_next hu]
    exact ih u

/-- A sample that is a NaN, or that meets a NaN in the first delay element, is answered with a NaN and poisons the
filter (R213, R289). -/
theorem exec_filtApply_poisons {s : State} {m : Byte} {f : Biquad} {x : F32} (hm : m.toNat < s.cfg.motorCount)
    (hf : s.filt[m.toNat]? = some f) (hready : f.ready = true) (h : f32IsNaN x = true ∨ f32IsNaN f.s1 = true) :
    ∃ t v, exec (.filtApply m x) { s with port := .host } = .next t ∧
      State.Responds { s with port := .host } t .host .ok v ∧ f32IsNaN v = true ∧ t.FilterPoisoned m := by
  have hl := filtApply_legal (s := { s with port := .host }) x hm hf hready
  have hslot : m.toNat < s.filt.length := (List.getElem?_eq_some_iff.mp hf).1
  exact ⟨_, _, hl.exec_eq ((passesGate_iff_of_none rfl).mpr rfl), hl.responds, isNaN_biquadOut h,
    .of_filt_set hm hslot (f := applyFilter s.draws f x) (by simpa using hready) (poisoned_applyFilter h) (by simp)
      (by simp)⟩

/-- Settles O57: the NaN sample poisons the filter, every later command keeps it poisoned, and so the next sample is
answered with a NaN. -/
theorem nanPoisonsTheFilter : Obligations.NaNPoisonsTheFilter := by
  intro s m x later f hf hm hready hx hlater
  obtain ⟨u, v, hu, ⟨hout, _⟩, hv, hpoison⟩ := exec_filtApply_poisons hm hf hready (.inl hx)
  obtain ⟨t, ht⟩ := runCommands_answers later u
  obtain ⟨⟨hmt, g, hg, hgready, hgout, hgs1, hgs2⟩, rs, hrs⟩ : t.FilterPoisoned m ∧ u.hostOut <+: t.hostOut :=
    runCommands_induct_on (P := fun a => a.FilterPoisoned m ∧ u.hostOut <+: a.hostOut) ht
      ⟨hpoison, [], List.append_nil _⟩ (fun _ _ ha => ha) fun c hc a b ⟨ha, hpre⟩ hb =>
        ⟨exec_keeps_filterPoisoned hb ha (hlater c hc), hpre.trans (exec_extends_hostOut hb)⟩
  refine ⟨t, g, v, (runCommands_cons_next hu).trans ht, ?_, hv, hg, hgout, hgs1, hgs2, fun z => ?_⟩
  · have hfirst : u.hostOut = s.hostOut ++ [⟨.ok, v⟩] := hout
    simp [← hrs, hfirst]
  · obtain ⟨w, y, hw, hresp, hy, _⟩ := exec_filtApply_poisons (x := z) hmt hg hgready (.inr hgs1)
    exact ⟨w, y, hw, hresp, hy⟩

/-! ### Independence of the filters -/

/-- An apply leaves every other slot of the filter bank (R213). -/
theorem filtApply_keeps_others {s t : State} {m : Byte} {x : F32} {k : Nat} (h : exec (.filtApply m x) s = .next t)
    (hk : k ≠ m.toNat) : t.filt[k]? = s.filt[k]? := by
  rcases exec_cases h with hill | ⟨_, u, v, hl, rfl⟩
  · obtain ⟨⟨_, _, _, ⟨hfilt, _⟩, _⟩, _⟩ := raiseIllegal_next hill
    rw [hfilt]
  · cases hl with
    | filtApply _ _ hm hr => simp [List.getElem?_set_ne hk.symm]

/-- The slot and the response after an apply, as a function of the filter, the port, the configuration and the draws
alone (R213). -/
def applyResult (p : Port) (c : Params) (n : Nat) (m : Byte) (f : Biquad) (x : F32) : Biquad × Response :=
  if p = .host ∧ m.toNat < c.motorCount ∧ f.ready = true then (applyFilter n f x, ⟨.ok, biquadOut n f x⟩)
  else (f, ⟨.illegal, 0⟩)

theorem filtApply_result {s t : State} {m : Byte} {f : Biquad} {x : F32} (h : exec (.filtApply m x) s = .next t)
    (hf : s.filt[m.toNat]? = some f) :
    t.filt[m.toNat]? = some (applyResult s.port s.cfg s.draws m f x).1 ∧
      t.output s.port = s.output s.port ++ [(applyResult s.port s.cfg s.draws m f x).2] := by
  unfold applyResult
  split
  case isTrue hok =>
    obtain ⟨hport, hm, hready⟩ := hok
    have hslot : m.toNat < s.filt.length := (List.getElem?_eq_some_iff.mp hf).1
    obtain ⟨u, hu, ⟨_, _, _, ⟨hfilt, _⟩, _⟩, hresp, _⟩ :=
      (filtApply_legal x hm hf hready).completes ((passesGate_iff_of_none rfl).mpr hport)
    cases hu.symm.trans h
    exact ⟨by simp [hfilt, hslot], hresp⟩
  case isFalse hno =>
    obtain ⟨u, hu, ⟨_, _, _, ⟨hfilt, _⟩, _⟩, hresp, _⟩ := filtApply_illegal x hf hno
    cases hu.symm.trans h
    exact ⟨by rw [hfilt, hf], hresp⟩

/-- Settles O58: the other slots are kept, and the slot's own result depends on nothing else of the state. -/
theorem motorsDoNotInteract : Obligations.MotorsDoNotInteract := by
  refine ⟨fun s t m x k h hk => filtApply_keeps_others h hk, fun s s' t t' m x f h h' hport hcfg hdraws hf hf' => ?_⟩
  obtain ⟨hslot, hout⟩ := filtApply_result h hf
  obtain ⟨hslot', hout'⟩ := filtApply_result h' hf'
  rw [← hport, ← hcfg, ← hdraws] at hslot' hout'
  exact ⟨hslot.trans hslot'.symm, _, hout, hout'⟩

end Sys2Proof.Machine
end

section
/-! PROOF. Rounding to binary32 is to nearest with ties to even, and so are the sum, the difference and the product of
finite numbers (R210). -/
namespace Sys2Proof.Machine

/-! ### Rounding to a place -/

/-- The rounding of `mag` at a place, from the quotient and the rest there. -/
theorem roundShift_eq (mag s : Nat) :
    roundShift mag s =
      if 2 ^ s < 2 * (mag % 2 ^ s) ∨ (2 ^ s = 2 * (mag % 2 ^ s) ∧ mag / 2 ^ s % 2 = 1) then mag / 2 ^ s + 1
      else mag / 2 ^ s := by
  have hrest : mag - mag / 2 ^ s * 2 ^ s = mag % 2 ^ s := by rw [Nat.mod_eq_sub_div_mul]
  simp only [roundShift, Nat.shiftRight_eq_div_pow, Nat.shiftLeft_eq, one_mul, hrest]

/-- A multiple of `g` that is neither of the two around `q * g + r` is farther from it than both. -/
theorem far_multiple {g r d : ℤ} (hr : 0 ≤ r) (hg : r < g) (hd : d ≤ -1 ∨ 2 ≤ d) :
    r < |d * g - r| ∧ (0 < r → g - r < |d * g - r|) := by
  rcases hd with hd | hd
  · have hle : d * g ≤ -1 * g := mul_le_mul_of_nonneg_right hd (by omega)
    rw [abs_of_neg (by omega)]
    constructor <;> omega
  · have hle : 2 * g ≤ d * g := mul_le_mul_of_nonneg_right hd (by omega)
    rw [abs_of_pos (by omega)]
    constructor <;> omega

/-- Of the two multiples around `q * g + r`, the nearer one, the even one where both are as near, is nearest of all. -/
theorem nearest_multiple {q r g : ℕ} (hr : r < g) (c : ℤ) :
    let n := if g < 2 * r ∨ (g = 2 * r ∧ q % 2 = 1) then q + 1 else q
    |(n : ℤ) * g - (q * g + r)| ≤ |c * g - (q * g + r)| ∧
      (|(n : ℤ) * g - (q * g + r)| = |c * g - (q * g + r)| → c ≠ n → n % 2 = 0) := by
  obtain ⟨d, rfl⟩ : ∃ d : ℤ, c = q + d := ⟨c - q, by ring⟩
  have hoffset (e : ℤ) : (q + e) * g - (q * g + r) = e * g - r := by ring
  have hlow : |(q : ℤ) * g - (q * g + r)| = r := by simp
  have hhigh : |((q + 1 : ℕ) : ℤ) * g - (q * g + r)| = g - r := by
    rw [Nat.cast_add_one, hoffset, one_mul, abs_of_pos (by omega)]
  have hcases : d ≤ -1 ∨ d = 0 ∨ d = 1 ∨ 2 ≤ d := by omega
  dsimp only
  split
  case isTrue hup =>
    rw [hhigh, hoffset]
    rcases hcases with hd | rfl | rfl | hd
    · have := far_multiple (g := g) (r := r) (by omega) (by omega) (.inl hd)
      have hfar := this.2 (by omega)
      exact ⟨hfar.le, fun h => absurd h hfar.ne⟩
    · simp; omega
    · rw [one_mul, abs_of_pos (by omega)]
      exact ⟨le_rfl, fun _ h => absurd (by push_cast; ring) h⟩
    · have := far_multiple (g := g) (r := r) (by omega) (by omega) (.inr hd)
      have hfar := this.2 (by omega)
      exact ⟨hfar.le, fun h => absurd h hfar.ne⟩
  case isFalse hdown =>
    rw [hlow, hoffset]
    rcases hcases with hd | rfl | rfl | hd
    · have := far_multiple (g := g) (r := r) (by omega) (by omega) (.inl hd)
      exact ⟨this.1.le, fun h => absurd h this.1.ne⟩
    · simp
    · rw [one_mul, abs_of_pos (by omega)]
      omega
    · have := far_multiple (g := g) (r := r) (by omega) (by omega) (.inr hd)
      exact ⟨this.1.le, fun h => absurd h this.1.ne⟩

/-- The multiple of the place that `roundShift` takes is nearest to `mag`, and even where another is as near. -/
theorem roundShift_nearest (mag s : Nat) (c : ℤ) :
    |(roundShift mag s : ℤ) * 2 ^ s - mag| ≤ |c * 2 ^ s - mag| ∧
      (|(roundShift mag s : ℤ) * 2 ^ s - mag| = |c * 2 ^ s - mag| → c ≠ roundShift mag s →
        roundShift mag s % 2 = 0) := by
  have hsplit : (mag : ℤ) = (mag / 2 ^ s : ℕ) * (2 ^ s : ℕ) + (mag % 2 ^ s : ℕ) := by
    exact_mod_cast (Nat.div_add_mod' mag (2 ^ s)).symm
  have hplace : (2 : ℤ) ^ s = (2 ^ s : ℕ) := by push_cast; rfl
  rw [hplace, roundShift_eq, hsplit]
  exact nearest_multiple (Nat.mod_lt _ (by positivity)) c

/-! ### The place of a rounding -/

theorem le_roundPlace (mag k : Nat) : k ≤ roundPlace mag k := Nat.le_max_left _ _

/-- At most 24 significant bits are left above the place (R210). -/
theorem lt_two_pow_roundPlace (mag k : Nat) : mag < 2 ^ (roundPlace mag k + 24) := by
  refine Nat.lt_log2_self.trans_le (Nat.pow_le_pow_right (by decide) ?_)
  have := Nat.le_max_right k (mag.log2 - 23)
  rw [roundPlace]
  omega

/-- Above the least place, no fewer than 24 significant bits are left (R210). -/
theorem two_pow_roundPlace_le {mag k : Nat} (hmag : mag ≠ 0) (h : roundPlace mag k ≠ k) :
    2 ^ (roundPlace mag k + 23) ≤ mag := by
  refine (Nat.pow_le_pow_right (by decide) ?_).trans (Nat.log2_self_le hmag)
  rw [roundPlace] at h ⊢
  omega

/-- A rounded magnitude has 24 bits, or is the power of two it carried to. -/
theorem roundShift_le (mag k : Nat) : roundShift mag (roundPlace mag k) ≤ 2 ^ 24 := by
  have hq : mag / 2 ^ roundPlace mag k < 2 ^ 24 :=
    Nat.div_lt_of_lt_mul (by rw [← pow_add]; exact lt_two_pow_roundPlace mag k)
  rw [roundShift_eq]
  split <;> omega

theorem le_roundShift {mag k : Nat} (hmag : mag ≠ 0) (h : roundPlace mag k ≠ k) :
    2 ^ 23 ≤ roundShift mag (roundPlace mag k) := by
  have hq : 2 ^ 23 ≤ mag / 2 ^ roundPlace mag k :=
    (Nat.le_div_iff_mul_le (by positivity)).mpr (by
      rw [← pow_add, Nat.add_comm]; exact two_pow_roundPlace_le hmag h)
  rw [roundShift_eq]
  split <;> omega

/-- The rounded magnitude is nearest to `mag` among all numbers of 24 significant bits that are multiples of the least
place `k`, and even where another is as near (R210). -/
theorem rounded_nearest {mag k m e : Nat} (hmag : mag ≠ 0) (hm : m < 2 ^ 24) {y : ℤ} (hy : y.natAbs = m * 2 ^ e) :
    |(roundShift mag (roundPlace mag k) : ℤ) * 2 ^ roundPlace mag k - mag| ≤ |y * 2 ^ k - mag| ∧
      (|(roundShift mag (roundPlace mag k) : ℤ) * 2 ^ roundPlace mag k - mag| = |y * 2 ^ k - mag| →
        y * 2 ^ k ≠ roundShift mag (roundPlace mag k) * 2 ^ roundPlace mag k →
          roundShift mag (roundPlace mag k) % 2 = 0) := by
  by_cases hgrid : roundPlace mag k ≤ e + k
  · obtain ⟨c, hc⟩ : ∃ c : ℤ, y * 2 ^ k = c * 2 ^ roundPlace mag k := by
      have hdvd : (2 : ℤ) ^ roundPlace mag k ∣ y * 2 ^ k := by
        have hye : (2 : ℤ) ^ e ∣ y := Int.dvd_natAbs.mp ⟨m, by rw [hy]; push_cast; ring⟩
        exact (pow_dvd_pow 2 hgrid).trans (by rw [pow_add]; exact mul_dvd_mul_right hye _)
      obtain ⟨c, hc⟩ := hdvd
      exact ⟨c, by rw [hc, mul_comm]⟩
    obtain ⟨hle, htie⟩ := roundShift_nearest mag (roundPlace mag k) c
    rw [hc]
    exact ⟨hle, fun h hne => htie h fun hcr => hne (by rw [hcr])⟩
  · have hplace := two_pow_roundPlace_le hmag (k := k) (by omega)
    have hsmall : y * 2 ^ k < 2 ^ 23 * 2 ^ roundPlace mag k := by
      have hlt : m * 2 ^ e * 2 ^ k < 2 ^ 23 * 2 ^ roundPlace mag k :=
        calc m * 2 ^ e * 2 ^ k = m * 2 ^ (e + k) := by rw [mul_assoc, ← pow_add]
          _ < 2 ^ 24 * 2 ^ (e + k) := Nat.mul_lt_mul_of_pos_right hm (by positivity)
          _ = 2 ^ 23 * 2 ^ (e + k + 1) := by ring
          _ ≤ 2 ^ 23 * 2 ^ roundPlace mag k := Nat.mul_le_mul_left _ (Nat.pow_le_pow_right (by decide) (by omega))
      calc y * 2 ^ k ≤ (y.natAbs : ℤ) * 2 ^ k := mul_le_mul_of_nonneg_right Int.le_natAbs (by positivity)
        _ = (m * 2 ^ e * 2 ^ k : ℕ) := by rw [hy]; push_cast; ring
        _ < (2 ^ 23 * 2 ^ roundPlace mag k : ℕ) := by exact_mod_cast hlt
        _ = 2 ^ 23 * 2 ^ roundPlace mag k := by push_cast; ring
    have hbottom : ((2 : ℤ) ^ 23) * 2 ^ roundPlace mag k ≤ mag := by
      rw [← pow_add, add_comm]
      exact_mod_cast hplace
    obtain ⟨hle, _⟩ := roundShift_nearest mag (roundPlace mag k) (2 ^ 23)
    have hlt : |(2 : ℤ) ^ 23 * 2 ^ roundPlace mag k - mag| < |y * 2 ^ k - mag| := by
      rw [abs_of_nonpos (by omega), abs_of_neg (by omega)]
      omega
    exact ⟨(hle.trans_lt hlt).le, fun h => absurd h (hle.trans_lt hlt).ne⟩

/-! ### Numbers put together from a sign and the bits below it -/

@[simp] theorem f32Sign_signed (neg : Bool) (low : Nat) : f32Sign (f32Signed neg low) = neg := by
  rw [f32Sign, f32Signed]
  exact (BitVec.getLsbD_append (x := BitVec.ofBool neg) (i := 31)).trans (by simp)

theorem f32Exp_signed {neg : Bool} {low : Nat} (h : low < 2 ^ 31) : f32Exp (f32Signed neg low) = low / 2 ^ 23 := by
  have hlow : (f32Signed neg low).extractLsb' 23 8 = (BitVec.ofNat 31 low).extractLsb' 23 8 :=
    BitVec.extractLsb'_append_eq_of_add_le (by decide)
  rw [f32Exp, hlow, BitVec.extractLsb'_toNat, BitVec.toNat_ofNat, Nat.mod_eq_of_lt h, Nat.shiftRight_eq_div_pow]
  omega

theorem f32Frac_signed {neg : Bool} {low : Nat} (h : low < 2 ^ 31) : f32Frac (f32Signed neg low) = low % 2 ^ 23 := by
  have hlow : (f32Signed neg low).extractLsb' 0 23 = (BitVec.ofNat 31 low).extractLsb' 0 23 :=
    BitVec.extractLsb'_append_eq_of_add_le (by decide)
  rw [f32Frac, hlow, BitVec.extractLsb'_toNat, BitVec.toNat_ofNat, Nat.mod_eq_of_lt h, Nat.shiftRight_zero]

/-- The last bit is that of the bits below the sign. -/
theorem getLsbD_zero_signed (neg : Bool) (low : Nat) : (f32Signed neg low).getLsbD 0 = decide (low % 2 = 1) := by
  rw [f32Signed]
  refine (BitVec.getLsbD_append (x := BitVec.ofBool neg) (y := BitVec.ofNat 31 low) (i := 0)).trans ?_
  rw [if_pos (by decide), BitVec.getLsbD_ofNat]
  simp

/-- Bits below those of an infinity make a finite number. -/
theorem isFinite_signed {neg : Bool} {low : Nat} (h : low < f32InfLow) : f32IsFinite (f32Signed neg low) = true := by
  rw [f32InfLow] at h
  rw [f32IsFinite_iff, f32Exp_signed (by omega)]
  omega

/-- The number whose bits are a place and a magnitude there: a magnitude of 24 bits, or the power of two it carried
to, moves into the exponent field by the addition (R210). -/
theorem f32Mag_signed {neg : Bool} {e r : Nat} (hr : r ≤ 2 ^ 24) (he : e = 0 ∨ 2 ^ 23 ≤ r)
    (hlow : e * 2 ^ 23 + r < f32InfLow) : f32Mag (f32Signed neg (e * 2 ^ 23 + r)) = r * 2 ^ e := by
  rw [f32InfLow] at hlow
  rw [f32Mag, f32Exp_signed (by omega), f32Frac_signed (by omega)]
  rcases Nat.lt_or_ge r (2 ^ 23) with hsub | hnorm
  · obtain rfl : e = 0 := by omega
    rw [if_pos (by omega)]
    omega
  · rw [if_neg (by omega), Nat.shiftLeft_eq]
    rcases Nat.lt_or_eq_of_le hr with hlt | rfl
    · have hexp : (e * 2 ^ 23 + r) / 2 ^ 23 - 1 = e := by omega
      have hfrac : 2 ^ 23 + (e * 2 ^ 23 + r) % 2 ^ 23 = r := by omega
      rw [hexp, hfrac]
    · have hexp : (e * 2 ^ 23 + 2 ^ 24) / 2 ^ 23 - 1 = e + 1 := by omega
      have hfrac : 2 ^ 23 + (e * 2 ^ 23 + 2 ^ 24) % 2 ^ 23 = 2 ^ 23 := by omega
      rw [hexp, hfrac]
      ring

/-- A finite number is a magnitude of 24 bits at some place (R210). -/
theorem f32Mag_eq_mul_two_pow (z : F32) : ∃ m e, m < 2 ^ 24 ∧ f32Mag z = m * 2 ^ e := by
  have hfrac : f32Frac z < 2 ^ 23 := BitVec.isLt _
  rw [f32Mag]
  split
  · exact ⟨f32Frac z, 0, by omega, (Nat.mul_one _).symm⟩
  · exact ⟨2 ^ 23 + f32Frac z, f32Exp z - 1, by omega, Nat.shiftLeft_eq _ _⟩

theorem natAbs_f32Units (z : F32) : (f32Units z).natAbs = f32Mag z := by
  rw [f32Units]
  split <;> omega

/-! ### One rounding -/

/-- A rounding carries to 2^24 from half a place below on, the tie going to the even 2^24. -/
theorem roundShift_lt_iff {mag s : Nat} (h : mag < 2 ^ (s + 1 + 24)) :
    roundShift mag (s + 1) < 2 ^ 24 ↔ mag < (2 ^ 25 - 1) * 2 ^ s := by
  have hq : mag / 2 ^ (s + 1) < 2 ^ 24 := Nat.div_lt_of_lt_mul (by rwa [← pow_add])
  have hr : mag % 2 ^ (s + 1) < 2 ^ (s + 1) := Nat.mod_lt _ (by positivity)
  have hsplit := Nat.div_add_mod' mag (2 ^ (s + 1))
  rw [roundShift_eq]
  generalize mag / 2 ^ (s + 1) = q at *
  generalize mag % 2 ^ (s + 1) = r at *
  rw [pow_succ] at *
  generalize 2 ^ s = g at *
  rcases Nat.lt_or_eq_of_le (Nat.le_sub_one_of_lt hq) with hlt | rfl
  · have hle : q * (g * 2) ≤ (2 ^ 24 - 2) * (g * 2) := Nat.mul_le_mul_right _ (by omega)
    split <;> omega
  · split <;> omega

/-- The rounding stays in the finite range exactly below the overflow threshold (R210). -/
theorem rounded_lt_inf_iff {mag k : Nat} (hmag : mag ≠ 0) :
    (roundPlace mag k - k) * 2 ^ 23 + roundShift mag (roundPlace mag k) < f32InfLow ↔ mag < overflowAt k := by
  have hk := le_roundPlace mag k
  have hupper := lt_two_pow_roundPlace mag k
  have hround := roundShift_le mag k
  rw [f32InfLow, overflowAt]
  rcases Nat.lt_trichotomy (roundPlace mag k) (253 + k) with hlt | heq | hgt
  · have hpow : 2 ^ (roundPlace mag k + 24) ≤ 2 ^ 24 * 2 ^ (252 + k) := by
      rw [← pow_add]
      exact Nat.pow_le_pow_right (by decide) (by omega)
    constructor <;> intro <;> omega
  · rw [heq, show 253 + k = 252 + k + 1 by omega] at hupper ⊢
    have hcarry := roundShift_lt_iff hupper
    omega
  · have hlower := two_pow_roundPlace_le hmag (k := k) (by omega)
    have hnorm := le_roundShift hmag (k := k) (by omega)
    have hpow : 2 ^ 25 * 2 ^ (252 + k) ≤ 2 ^ (roundPlace mag k + 23) := by
      rw [← pow_add]
      exact Nat.pow_le_pow_right (by decide) (by omega)
    constructor <;> intro <;> omega

/-- The sign of a value as a factor: the value is it times its magnitude, and so is every number of that sign. -/
theorem exists_sign_factor {exact : ℤ} {b : F32} (hsign : f32Sign b = decide (exact < 0)) :
    ∃ σ : ℤ, (σ = 1 ∨ σ = -1) ∧ exact = σ * exact.natAbs ∧ f32Units b = σ * f32Mag b := by
  rw [f32Units, hsign]
  by_cases h : exact < 0
  · exact ⟨-1, .inr rfl, by omega, by simp [h]⟩
  · exact ⟨1, .inl rfl, by omega, by simp [h]⟩

/-- The distance to a value is, up to a common sign, the distance to its magnitude. -/
theorem abs_sub_sign_mul {σ : ℤ} (hσ : σ = 1 ∨ σ = -1) (x : ℤ) (a : ℕ) (k : ℕ) :
    |x * 2 ^ k - σ * a| = |σ * x * 2 ^ k - a| := by
  rcases hσ with rfl | rfl
  · simp
  · rw [← abs_neg]
    congr 1
    ring

/-- A number of the sign of the value whose magnitude is the rounded one is nearest to the value (R210). -/
theorem nearestEven_of_mag {exact : ℤ} {k : Nat} {b : F32} (hne : exact ≠ 0) (hfinite : f32IsFinite b = true)
    (hsign : f32Sign b = decide (exact < 0))
    (hmag : f32Mag b * 2 ^ k = roundShift exact.natAbs (roundPlace exact.natAbs k) * 2 ^ roundPlace exact.natAbs k)
    (hbit : b.getLsbD 0 = decide (roundShift exact.natAbs (roundPlace exact.natAbs k) % 2 = 1)) :
    NearestEven exact k b := by
  obtain ⟨σ, hσ, hexact, hunits⟩ := exists_sign_factor hsign
  have hsq : σ * σ = 1 := by rcases hσ with rfl | rfl <;> rfl
  have hb : σ * f32Units b * 2 ^ k =
      roundShift exact.natAbs (roundPlace exact.natAbs k) * 2 ^ roundPlace exact.natAbs k := by
    rw [hunits, ← mul_assoc, hsq, one_mul]
    exact_mod_cast hmag
  refine ⟨hfinite, fun z _ => ?_⟩
  obtain ⟨m, e, hm, hz⟩ := f32Mag_eq_mul_two_pow z
  have hy : (σ * f32Units z).natAbs = m * 2 ^ e := by
    rw [Int.natAbs_mul, natAbs_f32Units, hz]
    rcases hσ with rfl | rfl <;> simp
  obtain ⟨hle, htie⟩ := rounded_nearest (k := k) (Int.natAbs_ne_zero.mpr hne) hm hy
  rw [← hb] at hle htie
  have hdist (x : ℤ) : |x * 2 ^ k - exact| = |σ * x * 2 ^ k - exact.natAbs| := by
    rw [← abs_sub_sign_mul hσ, ← hexact]
  rw [hdist, hdist]
  refine ⟨hle, fun heq hne' => ?_⟩
  have heven := htie heq fun h => hne' ?_
  · rw [hbit, heven]
    rfl
  · have hcancel := mul_right_cancel₀ (pow_ne_zero k two_ne_zero) h
    rcases hσ with rfl | rfl <;> simpa using hcancel

/-- Below the overflow threshold the rounding is the nearest finite number (R210). -/
theorem nearestEven_rounded {exact : ℤ} {k : Nat} (hne : exact ≠ 0) (h : exact.natAbs < overflowAt k) :
    NearestEven exact k (f32Signed (decide (exact < 0)) (roundLow exact.natAbs k)) := by
  have hmag := Int.natAbs_ne_zero.mpr hne
  have hk := le_roundPlace exact.natAbs k
  have hfinite := (rounded_lt_inf_iff (k := k) hmag).mpr h
  have hlow : roundLow exact.natAbs k = (roundPlace exact.natAbs k - k) * 2 ^ 23 +
      roundShift exact.natAbs (roundPlace exact.natAbs k) := Nat.min_eq_left hfinite.le
  have hplace : roundPlace exact.natAbs k - k = 0 ∨ 2 ^ 23 ≤ roundShift exact.natAbs (roundPlace exact.natAbs k) :=
    (eq_or_ne (roundPlace exact.natAbs k) k).imp (by omega) (le_roundShift hmag)
  rw [hlow]
  refine nearestEven_of_mag hne (isFinite_signed hfinite) (f32Sign_signed _ _) ?_ ?_
  · rw [f32Mag_signed (roundShift_le exact.natAbs k) hplace hfinite, mul_assoc, ← pow_add, Nat.sub_add_cancel hk]
  · rw [getLsbD_zero_signed, Nat.add_mod, Nat.mul_mod]
    simp

/-- A nonzero value is rounded as R210 asks. -/
theorem roundedTo_f32Round {exact : ℤ} {k : Nat} {zeroNeg : Bool} (hne : exact ≠ 0) :
    RoundedTo exact k (f32Round exact k zeroNeg) := by
  rw [f32Round, if_neg hne]
  refine ⟨f32Sign_signed _ _, ?_⟩
  split
  case isTrue h => exact nearestEven_rounded hne h
  case isFalse h =>
    have hinf : roundLow exact.natAbs k = f32InfLow :=
      Nat.min_eq_right (Nat.not_lt.mp (mt (rounded_lt_inf_iff (Int.natAbs_ne_zero.mpr hne)).mp h))
    rw [hinf]
    exact (f32Inf_isInf _).1

/-! ### Sums and products -/

@[simp] theorem f32Units_neg (x : F32) : f32Units (f32Neg x) = -f32Units x := by
  simp only [f32Units, f32Mag, f32Sign_neg, f32Exp_neg, f32Frac_neg]
  cases f32Sign x <;> simp

theorem fadd_finite {d : BitVec 23} {x y : F32} (hx : f32IsFinite x = true) (hy : f32IsFinite y = true) :
    fadd d x y = f32Round (f32Units x + f32Units y) 0 (f32Sign x && f32Sign y) := by
  simp [fadd, not_isNaN_of_isFinite, not_isInf_of_isFinite, hx, hy]

theorem fmul_finite {d : BitVec 23} {x y : F32} (hx : f32IsFinite x = true) (hy : f32IsFinite y = true) :
    fmul d x y = f32Round (f32Units x * f32Units y) 149 (f32Sign x != f32Sign y) := by
  simp [fmul, not_isNaN_of_isFinite, not_isInf_of_isFinite, hx, hy]

theorem fsub_finite {d : BitVec 23} {x y : F32} (hx : f32IsFinite x = true) (hy : f32IsFinite y = true) :
    fsub d x y = f32Round (f32Units x - f32Units y) 0 (f32Sign x && !f32Sign y) := by
  rw [fsub, fadd_finite hx (by simpa using hy), f32Units_neg, f32Sign_neg, sub_eq_add_neg]

/-- An exact zero is rounded to the zero of the given sign (R210). -/
theorem f32Round_zero (k : Nat) (neg : Bool) : f32Round 0 k neg = if neg then 0x80000000 else 0 := by
  rw [f32Round, if_pos rfl]
  cases neg <;> rfl

/-- Settles O54: the sum and the difference are rounded once, and their zeros have the signs of the terms. -/
theorem additionIsCorrectlyRounded : Obligations.AdditionIsCorrectlyRounded := by
  intro d x y hx hy
  rw [fadd_finite hx hy, fsub_finite hx hy]
  refine ⟨roundedTo_f32Round, fun h => ?_, roundedTo_f32Round, fun h => ?_⟩
  · simp [h, f32Round_zero]
  · simp [h, f32Round_zero]

/-- Settles O55: the product is rounded once, and a zero product has the sign of the product. -/
theorem multiplicationIsCorrectlyRounded : Obligations.MultiplicationIsCorrectlyRounded := by
  intro d x y hx hy
  rw [fmul_finite hx hy]
  refine ⟨roundedTo_f32Round, fun h => ?_⟩
  rw [h, f32Round_zero]
  cases f32Sign x <;> cases f32Sign y <;> rfl

end Sys2Proof.Machine
end

section
/-! PROOF. The reference coefficients of the example of R211: bounds of the real values, and the spacing of the finite
numbers around each of them. -/
namespace Sys2Proof.Machine

/-! ### The spacing of the finite numbers -/

/-- Finite numbers other than one that has all 24 bits at a place, and is not a power of two, are at least one place
away from it (R210). -/
theorem two_pow_le_abs_units_sub {b z : F32} {n : ℤ} {e : ℕ} (hb : f32Units b = n * 2 ^ e) (hn : 2 ^ 23 < |n|)
    (hne : f32Units z ≠ f32Units b) : 2 ^ e ≤ |f32Units z - f32Units b| := by
  obtain ⟨m, e', hm, hz⟩ := f32Mag_eq_mul_two_pow z
  have habs : |f32Units z| = m * 2 ^ e' := by
    rw [Int.abs_eq_natAbs, natAbs_f32Units, hz]
    push_cast
    rfl
  by_cases he : e ≤ e'
  · have hdvd : (2 : ℤ) ^ e ∣ f32Units z - f32Units b := by
      refine dvd_sub ((dvd_abs _ _).mp ?_) (hb ▸ Dvd.intro_left n rfl)
      exact habs ▸ (pow_dvd_pow 2 he).mul_left _
    exact Int.le_of_dvd (abs_pos.mpr (sub_ne_zero.mpr hne)) ((dvd_abs _ _).mpr hdvd)
  · have hsmall : |f32Units z| ≤ 2 ^ 23 * 2 ^ e := by
      rw [habs]
      calc (m : ℤ) * 2 ^ e' ≤ 2 ^ 24 * 2 ^ e' := mul_le_mul_of_nonneg_right (by exact_mod_cast hm.le) (by positivity)
        _ = 2 ^ 23 * 2 ^ (e' + 1) := by ring
        _ ≤ 2 ^ 23 * 2 ^ e := mul_le_mul_of_nonneg_left (pow_le_pow_right₀ (by norm_num) (by omega)) (by positivity)
    have hlarge : (2 ^ 23 + 1) * 2 ^ e ≤ |f32Units b| := by
      rw [hb, abs_mul, abs_of_pos (show (0 : ℤ) < 2 ^ e by positivity)]
      exact mul_le_mul_of_nonneg_right hn (by positivity)
    have htriangle := abs_sub_abs_le_abs_sub (f32Units b) (f32Units z)
    rw [abs_sub_comm] at htriangle
    linarith

/-- A quotient that lies within half a place of such a number rounds to it (R211). -/
theorem realRoundsTo_div {x a : ℝ} {b : F32} {n : ℤ} {k e : ℕ} (hfinite : f32IsFinite b = true) (ha : 0 < a)
    (hb : f32Units b = n * 2 ^ e) (hn : 2 ^ 23 < |n|) (hk : k + e = 149) (hlow : (n - 1 / 2) * a < x * 2 ^ k)
    (hhigh : x * 2 ^ k < (n + 1 / 2) * a) : RealRoundsTo (x / a) b := by
  have hclose : |(f32Units b : ℝ) - x / a * 2 ^ 149| < 2 ^ e / 2 := by
    have hscaled : |(n : ℝ) - x / a * 2 ^ k| < 1 / 2 := by
      rw [div_mul_eq_mul_div, abs_sub_lt_iff]
      exact ⟨by linarith [(lt_div_iff₀ ha).mpr hlow], by linarith [(div_lt_iff₀ ha).mpr hhigh]⟩
    have hfactor : (f32Units b : ℝ) - x / a * 2 ^ 149 = (n - x / a * 2 ^ k) * 2 ^ e := by
      rw [hb, ← hk, pow_add]
      push_cast
      ring
    rw [hfactor, abs_mul, abs_of_pos (show (0 : ℝ) < 2 ^ e by positivity)]
    calc _ < 1 / 2 * (2 : ℝ) ^ e := mul_lt_mul_of_pos_right hscaled (by positivity)
      _ = 2 ^ e / 2 := by ring
  refine ⟨hfinite, fun z _ => ?_⟩
  by_cases hz : f32Units z = f32Units b
  · rw [hz]
    exact ⟨le_rfl, fun _ h => absurd rfl h⟩
  · have hspace : (2 : ℝ) ^ e ≤ |(f32Units z : ℝ) - f32Units b| := by
      exact_mod_cast two_pow_le_abs_units_sub hb hn hz
    have htriangle := abs_sub_le (f32Units z : ℝ) (x / a * 2 ^ 149) (f32Units b)
    rw [abs_sub_comm (x / a * 2 ^ 149) (f32Units b : ℝ)] at htriangle
    have hlt : |(f32Units b : ℝ) - x / a * 2 ^ 149| < |(f32Units z : ℝ) - x / a * 2 ^ 149| := by linarith
    exact ⟨hlt.le, fun h => absurd h hlt.ne⟩

/-! ### The real values of the example -/

theorem sqrt_five_bounds : 2.23606797749 < √(5 : ℝ) ∧ √(5 : ℝ) < 2.2360679775 :=
  ⟨Real.lt_sqrt_of_sq_lt (by norm_num), (Real.sqrt_lt' (by norm_num)).mpr (by norm_num)⟩

/-- `al` of the example, for the angle π/5 and Q = 1/√2 (R211). -/
noncomputable def exampleAlpha : ℝ := Real.sin (Real.pi / 5) / (2 * (1 / √2))

theorem exampleAlpha_sq : exampleAlpha ^ 2 = (5 - √5) / 16 := by
  have h2 : √(2 : ℝ) ^ 2 = 2 := Real.sq_sqrt (by norm_num)
  have h5 : √(5 : ℝ) ^ 2 = 5 := Real.sq_sqrt (by norm_num)
  have hsin : Real.sin (Real.pi / 5) ^ 2 = 1 - ((1 + √5) / 4) ^ 2 := by
    rw [Real.sin_sq, Real.cos_pi_div_five]
  have hq : (2 * (1 / √(2 : ℝ))) ^ 2 = 2 := by
    rw [mul_pow, one_div, inv_pow, h2]
    norm_num
  rw [exampleAlpha, div_pow, hsin, hq]
  linear_combination (-1 / 32) * h5

theorem exampleAlpha_bounds : 0.415626937 < exampleAlpha ∧ exampleAlpha < 0.415626938 := by
  obtain ⟨hlow, hhigh⟩ := sqrt_five_bounds
  have hsin : 0 < Real.sin (Real.pi / 5) :=
    Real.sin_pos_of_pos_of_lt_pi (by positivity) (by linarith [Real.pi_pos])
  have hpos : 0 < exampleAlpha := div_pos hsin (by positivity)
  have hsq := exampleAlpha_sq
  exact ⟨lt_of_pow_lt_pow_left₀ 2 hpos.le (by rw [hsq]; norm_num; linarith),
    lt_of_pow_lt_pow_left₀ 2 (by norm_num) (by rw [hsq]; norm_num; linarith)⟩

/-- Settles O59: cos(π/5) is known in closed form, and each coefficient lies within half a place of its number. -/
theorem referenceCoefficientsExample : Obligations.ReferenceCoefficientsExample := by
  obtain ⟨hlow, hhigh⟩ := sqrt_five_bounds
  obtain ⟨hlow', hhigh'⟩ := exampleAlpha_bounds
  have hpos : 0 < 1 + exampleAlpha := by linarith
  have hangle : Real.pi / 5 = 2 * Real.pi * (100 : Word).toNat * (1000 : Word).toNat * (1 / 1000000) := by
    rw [show (100 : Word).toNat = 100 from rfl, show (1000 : Word).toNat = 1000 from rfl]
    push_cast
    ring
  refine ⟨Real.pi / 5, 1 / √2, exampleAlpha, 1 + exampleAlpha, hangle, rfl, rfl, rfl, ?b0, ?b1, rfl, ?a1, ?a2⟩ <;>
    simp only [Real.cos_pi_div_five]
  case b0 =>
    exact realRoundsTo_div (n := 0x8A25FE) (k := 27) (e := 122) (by decide) hpos (by decide +kernel) (by norm_num) rfl
      (by norm_num; linarith) (by norm_num; linarith)
  case b1 =>
    exact realRoundsTo_div (n := 0x8A25FE) (k := 26) (e := 123) (by decide) hpos (by decide +kernel) (by norm_num) rfl
      (by norm_num; linarith) (by norm_num; linarith)
  case a1 =>
    exact realRoundsTo_div (n := -0x924D2F) (k := 23) (e := 126) (by decide) hpos (by decide +kernel) (by norm_num) rfl
      (by norm_num; linarith) (by norm_num; linarith)
  case a2 =>
    exact realRoundsTo_div (n := 0xD35ABB) (k := 25) (e := 124) (by decide) hpos (by decide +kernel) (by norm_num) rfl
      (by norm_num; linarith) (by norm_num; linarith)

end Sys2Proof.Machine
end
